-- ==== Sys2Proof/Word.lean ====
section
/-! DEFINITION. The one word type of the block: a byte of the control link, of the configuration memory and of a
record's payload (spec/09 R159, spec/11 R179). Every other quantity of the manual is a whole number in a stated
range (spec/00 section 4.2) and is held as a `Nat` or an `Int`. -/

namespace Sys2Proof

/-- A byte, as the control link carries it and as the configuration memory stores it. -/
abbrev Byte := BitVec 8

end Sys2Proof
end

