-- ==== Sys2Proof/Syntax.lean ====
section
/-! DEFINITION. The commands of the JL-64: one constructor of `Instr` for each row of spec/opcode_table.json.

A command is the event itself, as the part meets it: a request frame whose last byte has arrived, a debounced line
that has changed, a timer that has run out, the end of a load. Its operands are what the event brings with it from
outside the state: the payload bytes of a frame, the number of the line group, the bytes the configuration memory
answered, the levels of lines that are sampled at that moment (DESIGN CHOICE, notes/assumptions 1, 2, 3). -/

namespace Sys2Proof

/-- Why a frame is dropped when the cause is not a gap (R162): a check that does not match (R161), a LEN of 0 or
over 256 (R160), a byte whose stop bit is missing (R159). The gap has a row of its own, FRAME_GAP_TIMEOUT. -/
inductive DropCause where
  | badCheck
  | badLength
  | brokenByte
deriving DecidableEq, Repr

/-- The commands. A fan, feeder or channel operand numbers the line group (64 fan groups, 4 feeder groups, 16 channel
groups, spec/11 section 11.5). A `payload` is the frame's payload, its bytes in the order sent (R159). -/
inductive Instr where
  /-- FULL_RESET (R1): power-on, or RESET held active for 50 ms. -/
  | fullReset
  /-- LOAD_END (R182): the load in progress ends. `memory` is the bytes the configuration memory answers from address
  0 on: a read beyond them gets no answer. `dir` and `health` are the levels of the sixteen anemometer DIR and HEALTH
  lines at that moment (bit n is channel n, 1 is active), read when the first windows begin (R144, R145). -/
  | loadEnd (memory : List Byte) (dir health : BitVec 16)
  /-- RELOAD_PULSE (R184): the debounced RELOAD level changes from inactive to active. -/
  | reloadPulse
  /-- IDENTIFY (R167), request type 0x01. -/
  | identify (payload : List Byte)
  /-- GET_STATUS (R168), request type 0x02. -/
  | getStatus (payload : List Byte)
  /-- GET_FAN (R118), request type 0x03. -/
  | getFan (payload : List Byte)
  /-- GET_FAN_TABLE (R118), request type 0x04. -/
  | getFanTable (payload : List Byte)
  /-- GET_DUTY (R35), request type 0x05. -/
  | getDuty (payload : List Byte)
  /-- GET_QUEUE (R137), request type 0x06. -/
  | getQueue (payload : List Byte)
  /-- GET_AIRFLOW (R155), request type 0x07. -/
  | getAirflow (payload : List Byte)
  /-- READ_EVENTS (R176), request type 0x08. -/
  | readEvents (payload : List Byte)
  /-- SET_EVENT_MASK (R177), request type 0x09. -/
  | setEventMask (payload : List Byte)
  /-- ACTIVATE_FIRE (R6), request type 0x10. -/
  | activateFire (payload : List Byte)
  /-- SET_TARGET (R80), request type 0x11. -/
  | setTarget (payload : List Byte)
  /-- FULL_THRUST (R81), request type 0x12. -/
  | fullThrust (payload : List Byte)
  /-- STAND_DOWN (R17), request type 0x13. -/
  | standDown (payload : List Byte)
  /-- FAN_COMMAND (R115), request type 0x20. -/
  | fanCommand (payload : List Byte)
  /-- LOCKOUT (R116), request type 0x21. -/
  | lockout (payload : List Byte)
  /-- RESTORE (R117), request type 0x22. -/
  | restore (payload : List Byte)
  /-- RELOAD_IMAGE (R183), request type 0x30. -/
  | reloadImage (payload : List Byte)
  /-- UNKNOWN_TYPE (R164): a frame of a type that names no request. -/
  | unknownType (type : Byte) (payload : List Byte)
  /-- FRAME_DISCARDED (R163): a well-formed frame meets a full transmit queue. -/
  | frameDiscarded (type : Byte) (payload : List Byte)
  /-- FRAME_DROPPED (R162): a frame being received is dropped. -/
  | frameDropped (cause : DropCause)
  /-- FRAME_GAP_TIMEOUT (R160): more than 50 ms since the last byte. -/
  | frameGapTimeout
  /-- FRAME_SENT (R165): the last byte of the oldest transmit frame has been sent. -/
  | frameSent
  /-- LINK_TIMEOUT (R170): the watchdog count reaches the link timeout. -/
  | linkTimeout
  /-- WINDOW_END (R146): the measurement window ends. `health` is the level of the sixteen HEALTH lines at that
  moment (bit n is channel n, 1 is active), read as the next windows begin (R145). -/
  | windowEnd (health : BitVec 16)
  /-- CONTROL_PERIOD_BOUNDARY (R77): the boundary that an M-th window end makes. -/
  | controlPeriodBoundary
  /-- PULSE (R145): an inactive-to-active change of a channel's PULSE line. `inLimits` says whether the pulse train
  keeps within the 40,000 pulses per second and 10 µs of R143; beyond them the change may go uncounted. -/
  | pulse (channel : Fin 16) (inLimits : Bool)
  /-- ANEMOMETER_DIR_CHANGE (R145): a change of level of a channel's DIR line. -/
  | anemometerDirChange (channel : Fin 16)
  /-- HEALTH_LOST (R145): a channel's HEALTH line becomes inactive. -/
  | healthLost (channel : Fin 16)
  /-- FB_ACTIVE (R100, R106): debounced FB becomes active. -/
  | fbActive (fan : Fin 64)
  /-- FB_INACTIVE (R102, R106): debounced FB becomes inactive. -/
  | fbInactive (fan : Fin 64)
  /-- TRIP_ACTIVE (R105): debounced TRIP becomes active. -/
  | tripActive (fan : Fin 64)
  /-- TRIP_INACTIVE (R108): debounced TRIP becomes inactive. -/
  | tripInactive (fan : Fin 64)
  /-- ISO_ACTIVE (R110): debounced ISO becomes active. -/
  | isoActive (fan : Fin 64)
  /-- ISO_INACTIVE (R110): debounced ISO becomes inactive. -/
  | isoInactive (fan : Fin 64)
  /-- RAMP_TIMER_EXPIRY (R99): a starting fan's ramp ends. -/
  | rampTimerExpiry (fan : Fin 64)
  /-- CONFIRM_TIMER_EXPIRY (R100): a starting fan's confirm time ends. -/
  | confirmTimerExpiry (fan : Fin 64)
  /-- COAST_TIMER_EXPIRY (R104): a fan's coast timer reaches its coast time. -/
  | coastTimerExpiry (fan : Fin 64)
  /-- STUCK_RUNNING_TIMER_EXPIRY (R106): FB has been active with RUN off for the feedback allowance. -/
  | stuckRunningTimerExpiry (fan : Fin 64)
  /-- AVAIL_INACTIVE (R127): debounced AVAIL becomes inactive. -/
  | availInactive (feeder : Fin 4)
  /-- AVAIL_ACTIVE (R125): debounced AVAIL becomes active. -/
  | availActive (feeder : Fin 4)
  /-- VLOW_ACTIVE (R125): debounced VLOW becomes active. -/
  | vlowActive (feeder : Fin 4)
  /-- VLOW_INACTIVE (R125): debounced VLOW becomes inactive. -/
  | vlowInactive (feeder : Fin 4)
  /-- SETTLE_TIMER_EXPIRY (R128): a feeder's settle timer runs out. -/
  | settleTimerExpiry (feeder : Fin 4)
  /-- BYTE_RECEIVED (R160): a byte arrives on the link. `stopBit` is no for a broken byte (R159). -/
  | byteReceived (byte : Byte) (stopBit : Bool)
deriving DecidableEq, Repr

/-- The type codes of the requests (R164, the table of spec/09 section 9.6). -/
def requestTypes : List Byte :=
  [0x01, 0x02, 0x03, 0x04, 0x05, 0x06, 0x07, 0x08, 0x09, 0x10, 0x11, 0x12, 0x13, 0x20, 0x21, 0x22, 0x30]

/-- The frame (type and payload) that a request command stands for; no frame for the other events. -/
def Instr.frame? : Instr → Option (Byte × List Byte)
  | .identify p => some (0x01, p)
  | .getStatus p => some (0x02, p)
  | .getFan p => some (0x03, p)
  | .getFanTable p => some (0x04, p)
  | .getDuty p => some (0x05, p)
  | .getQueue p => some (0x06, p)
  | .getAirflow p => some (0x07, p)
  | .readEvents p => some (0x08, p)
  | .setEventMask p => some (0x09, p)
  | .activateFire p => some (0x10, p)
  | .setTarget p => some (0x11, p)
  | .fullThrust p => some (0x12, p)
  | .standDown p => some (0x13, p)
  | .fanCommand p => some (0x20, p)
  | .lockout p => some (0x21, p)
  | .restore p => some (0x22, p)
  | .reloadImage p => some (0x30, p)
  | .unknownType t p => some (t, p)
  | .frameDiscarded t p => some (t, p)
  | .fullReset | .loadEnd _ _ _ | .reloadPulse | .frameDropped _ | .frameGapTimeout | .frameSent | .linkTimeout
  | .windowEnd _ | .controlPeriodBoundary | .pulse _ _ | .anemometerDirChange _ | .healthLost _ | .fbActive _
  | .fbInactive _ | .tripActive _ | .tripInactive _ | .isoActive _ | .isoInactive _ | .rampTimerExpiry _
  | .confirmTimerExpiry _ | .coastTimerExpiry _ | .stuckRunningTimerExpiry _ | .availInactive _ | .availActive _
  | .vlowActive _ | .vlowInactive _ | .settleTimerExpiry _ | .byteReceived _ _ => none

end Sys2Proof
end

