-- ==== Sys2Proof/WellFormed.lean ====
section
/-! DEFINITION. Which commands can reach the part. The line-group numbers are in range by their types; what is left
to check is the length of a frame, the type of an UNKNOWN_TYPE frame and the size of the configuration memory. The
meanings do not lean on these checks: a command that fails one still has the effect the rules give its frame. -/

namespace Sys2Proof

/-- The longest payload a request frame may carry: LEN counts the type and the payload and is at most 256 (R159). -/
def maxPayload : Nat := 255

/-- The bytes of configuration memory the image loader addresses (R179). -/
def configMemorySize : Nat := 8192

/-- A well-formed command: its frame's LEN is within 1..256 (R160), an UNKNOWN_TYPE frame has a type that names no
request (R164), and a load reads no more than the 8 KiB of configuration memory (R179). -/
def Instr.wellFormed : Instr → Bool
  | .loadEnd memory _ _ => decide (memory.length ≤ configMemorySize)
  | .unknownType t p => decide (p.length ≤ maxPayload) && !(requestTypes.contains t)
  | .frameDiscarded _ p => decide (p.length ≤ maxPayload)
  | .identify p | .getStatus p | .getFan p | .getFanTable p | .getDuty p | .getQueue p | .getAirflow p
  | .readEvents p | .setEventMask p | .activateFire p | .setTarget p | .fullThrust p | .standDown p
  | .fanCommand p | .lockout p | .restore p | .reloadImage p => decide (p.length ≤ maxPayload)
  | .fullReset | .reloadPulse | .frameDropped _ | .frameGapTimeout | .frameSent | .linkTimeout | .windowEnd _
  | .controlPeriodBoundary | .pulse _ _ | .anemometerDirChange _ | .healthLost _ | .fbActive _ | .fbInactive _
  | .tripActive _ | .tripInactive _ | .isoActive _ | .isoInactive _ | .rampTimerExpiry _ | .confirmTimerExpiry _
  | .coastTimerExpiry _ | .stuckRunningTimerExpiry _ | .availInactive _ | .availActive _ | .vlowActive _
  | .vlowInactive _ | .settleTimerExpiry _ | .byteReceived _ _ => true

end Sys2Proof
end

