-- ==== Sys2Proof/Decode.lean ====
section
/-! DEFINITION. The two decodings of the block. spec/opcode_table.json gives no row any bits (every row's "fields" is
empty), so no word spells a command of the table. The words that do carry commands are the frames of the control link:
`requestOf` reads the command from a frame's type and payload (R164, spec/09 section 9.6), and `Instr.frame?` (Syntax)
is its way back. -/

namespace Sys2Proof

/-- The command that a word spells by the bits of spec/opcode_table.json: the table gives bits to no row. -/
def decodeTableWord (_nbits _w : Nat) : Option Instr := none

/-- The request command that a frame of this type and payload is; a type that names no request gives UNKNOWN_TYPE
(R164, check 1). -/
def requestOf (type : Byte) (payload : List Byte) : Instr :=
  if type = 0x01 then .identify payload
  else if type = 0x02 then .getStatus payload
  else if type = 0x03 then .getFan payload
  else if type = 0x04 then .getFanTable payload
  else if type = 0x05 then .getDuty payload
  else if type = 0x06 then .getQueue payload
  else if type = 0x07 then .getAirflow payload
  else if type = 0x08 then .readEvents payload
  else if type = 0x09 then .setEventMask payload
  else if type = 0x10 then .activateFire payload
  else if type = 0x11 then .setTarget payload
  else if type = 0x12 then .fullThrust payload
  else if type = 0x13 then .standDown payload
  else if type = 0x20 then .fanCommand payload
  else if type = 0x21 then .lockout payload
  else if type = 0x22 then .restore payload
  else if type = 0x30 then .reloadImage payload
  else .unknownType type payload

end Sys2Proof
end

