-- ==== Sys2Proof/Config.lean ====
section
/-! DEFINITION. What the part fixes (numbers that no line image changes) and the free values: what the manual leaves
open, as constants without a body, so that no proof can see them (notes/assumptions 3 and 4). -/

namespace Sys2Proof.Config

/-- The fan groups of the part (spec/11 section 11.5, R120). -/
def fanGroups : Nat := 64

/-- The feeder groups of the part (spec/11 section 11.5, R124). -/
def feederGroups : Nat := 4

/-- The most frames the transmit queue holds (R165). -/
def txCapacity : Nat := 8

/-- The longest LEN a request frame may carry (R159). -/
def maxRequestLen : Nat := 256

/-- The gap after which a frame being received is abandoned, in milliseconds (R160). -/
def gapLimitMs : Nat := 50

/-- The vendor code of the IDENT reply (R167). -/
def vendorCode : Nat := 0x0B17

/-- The part code of the IDENT reply (R167). -/
def partCode : Nat := 0x0040

/-- The format identifier of a line image (R179). -/
def imageFormat : Nat := 0x4A54

/-- The coast time supervised with before the first good load, in seconds (R91). -/
def interimCoastTime : Nat := 600

/-- The feedback allowance supervised with before the first good load, in seconds (R91). -/
def interimFeedbackAllowance : Nat := 10

/-- The count at which a coast timer saturates, in seconds (R92, R103). -/
def coastTimerMax : Nat := 600

/-- The count at which an exposure saturates, in seconds (R71), a pulse count (R145), the dropped and discarded frame
counts (R162, R163). -/
def count16Max : Nat := 65535

/-- FREE VALUE: whether a change of a PULSE line beyond the limits of R143 is counted. R143 says only that the count
such a train adds lies anywhere from 0 to the number of its changes. -/
opaque freePulseCounted : Nat → Bool

/-- FREE VALUE: which HEALTH lines that were last seen inactive have become active by a window end that no command
brings (no row of the table tells the block of a HEALTH line becoming active). Bit n is channel n. -/
opaque freeHealthRegained : Nat → BitVec 16

/-- FREE VALUE: whether the report of a member's loss waits, so that a request or a boundary can be taken before it (R57,
R69, R83, R89), or is taken within the step that loses the fan (spec/95). -/
opaque freeReportWaits : Nat → Bool

end Sys2Proof.Config
end

