-- ==== Sys2Proof/Machine/State.lean ====
section
/-! DEFINITION. The state of the JL-64, whole, as plain data: every record, timer, counter, queue, mode and pin that
spec/ gives its seven blocks, the queue of commands waiting, and the state after a full reset. INVENTORY.md lists each
field with the rule that names it. -/

namespace Sys2Proof.Machine

/-! ### Names shared by the blocks -/

/-- The direction of air, of a fan and of a demand (spec/00 section 4.1). A DIR line active means REVERSE. -/
inductive Direction where
  | forward
  | reverse
deriving DecidableEq, Repr

/-- The four line modes (spec/01 section 1.1). -/
inductive LineMode where
  | loading
  | configFault
  | normal
  | fire
deriving DecidableEq, Repr

/-- The two phases of a start, each with the seconds its timer has left: the ramp timer (R98, R99) and the confirm
timer (R99, R100). -/
inductive StartPhase where
  | ramp (left : Nat)
  | confirm (left : Nat)
deriving DecidableEq, Repr

/-- The nine fan states (R92, spec/06 section 6.4). The running direction is present in STARTING and RUNNING and the
start phase in STARTING, so they are carried there. -/
inductive FanState where
  | idle
  | queued
  | starting (dir : Direction) (phase : StartPhase)
  | running (dir : Direction)
  | coasting
  | tripped
  | failed
  | isolated
  | unpowered
deriving DecidableEq, Repr

/-- The class of a run demand and of a queue entry (R92, R129). -/
inductive DemandClass where
  | urgent
  | routine
deriving DecidableEq, Repr

/-- A fan's demand (R92): NONE, or a run demand with its direction and class. -/
inductive Demand where
  | none
  | run (dir : Direction) (cls : DemandClass)
deriving DecidableEq, Repr

/-- The last fault of a fan (R92). -/
inductive LastFault where
  | none
  | trip
  | failToStart
  | uncommandedStop
  | stuckRunning
deriving DecidableEq, Repr

/-- The four feeder states (R124). -/
inductive FeederState where
  | dead
  | hold
  | settling
  | ready
deriving DecidableEq, Repr

/-- Why a member joined the duty set (R52). -/
inductive JoinReason where
  | initial
  | need
  | redundant
  | trim
  | full
deriving DecidableEq, Repr

/-- The quality of an airflow sample (R142). -/
inductive Quality where
  | good
  | overrange
  | ambiguous
  | unhealthy
deriving DecidableEq, Repr

/-- The side of a fan or channel in a scenario (R10). -/
inductive Side where
  | cold
  | hot
  | neither
deriving DecidableEq, Repr

/-- The result of the last load (R181). -/
inductive LoadFault where
  | none
  | noResponse
  | badFormat
  | badCrc
  | range
  | reference
deriving DecidableEq, Repr

/-- The load state of the image loader (R181). -/
inductive LoadState where
  | reading
  | idle
deriving DecidableEq, Repr

/-- The reasons of a REFUSE reply (R164). -/
inductive RefuseReason where
  | unknownType
  | badLength
  | range
  | mode
  | state
  | noImage
deriving DecidableEq, Repr

/-- The link watchdog (R169): in COUNTING it holds its count of whole seconds. -/
inductive Watchdog where
  | stopped
  | counting (count : Nat)
  | lost
deriving DecidableEq, Repr

/-- The receive framer (R160). COLLECTING holds the bytes of the frame since its start byte, in the order received. -/
inductive Framer where
  | hunting
  | collecting (bytes : List Byte)
  | skipping
deriving DecidableEq, Repr

/-- The twelve event kinds (spec/10 section 10.1). -/
inductive EventKind where
  | fireMode
  | dutyChange
  | shortfall
  | feedbackLost
  | fanFault
  | fanExpired
  | feederHold
  | feederDead
  | airflowFault
  | linkLost
  | linkError
  | reloadIgnored
deriving DecidableEq, Repr

/-! ### The line image (R179): the static records -/

/-- The static part of a fan record (R91). -/
structure FanStatic where
  chainage : Nat
  feeder : Nat
  ratedThrust : Nat
  installation : Nat
  primary : Direction
  reverseRatio : Nat
  startTime : Nat
  coastTime : Nat
  heatRating : Nat
deriving DecidableEq, Repr

/-- The static part of a feeder record (R123). -/
structure FeederStatic where
  slots : Nat
  settleTime : Nat
deriving DecidableEq, Repr

/-- The static part of a channel record (R141). -/
structure ChannelStatic where
  chainage : Nat
  scale : Nat
  vmax : Nat
deriving DecidableEq, Repr

/-- One entry of the class table (R179): the target velocity, the fire pressure, the two window radii. -/
structure FireClass where
  target : Nat
  firePressure : Nat
  radiusUp : Nat
  radiusDown : Nat
deriving DecidableEq, Repr

/-- The two link fallbacks (R19). -/
inductive Fallback where
  | hold
  | stopAll
deriving DecidableEq, Repr

/-- The tunnel section of the line image (R179), its fields in image order. -/
structure Tunnel where
  length : Nat
  crossSection : Nat
  baseLoss : Nat
  trainLoss : Nat
  density : Nat
  jetVelocity : Nat
  windAllowance : Nat
  smokeDerating : Nat
  redundancy : Nat
  trimBand : Nat
  windowSeconds : Nat
  windowsPerPeriod : Nat
  debounceMs : Nat
  feedbackAllowance : Nat
  linkTimeout : Nat
  fallback : Fallback
deriving DecidableEq, Repr

/-- A descriptor of a plan (R37): its walk goes down the fan numbers when `down` is yes (step −1). The last flag of
the image ends the list of descriptors and is not kept apart from it. -/
structure Descriptor where
  first : Nat
  count : Nat
  down : Bool
deriving DecidableEq, Repr

/-- A scenario plan (R37). -/
structure Plan where
  direction : Direction
  lo : Nat
  hi : Nat
  isOpen : Bool
  descriptors : List Descriptor
deriving DecidableEq, Repr

/-- The line image in use: the static records of the last good load (R179, R182). -/
structure LineImage where
  identifier : BitVec 32
  crc : BitVec 16
  tunnel : Tunnel
  classes : List FireClass
  feeders : List FeederStatic
  fans : List FanStatic
  channels : List ChannelStatic
  plans : List Plan
deriving DecidableEq, Repr

/-! ### The fan supervisor -/

/-- The live part of a fan record (R92) with the fan's debounced inputs (R93), its RUN and DIR outputs (R94) and its
stuck-running timer (R106). `dirOut` is REVERSE when the DIR output is active. `stuckTimer` holds the seconds left
while the timer runs. -/
structure Fan where
  state : FanState
  demand : Demand
  coastTimer : Nat
  restartUsed : Bool
  lockout : Bool
  lastFault : LastFault
  exposure : Nat
  expired : Bool
  fb : Bool
  trip : Bool
  iso : Bool
  run : Bool
  dirOut : Direction
  stuckTimer : Option Nat
deriving DecidableEq, Repr

/-- The live record every fan group holds after a full reset (R120). -/
def Fan.afterReset : Fan :=
  { state := .coasting, demand := .none, coastTimer := 0, restartUsed := false, lockout := false,
    lastFault := .none, exposure := 0, expired := false, fb := false, trip := false, iso := false,
    run := false, dirOut := .forward, stuckTimer := none }

/-! ### The feeder arbiter -/

/-- An entry of a start queue (R129). Its class is the group it stands in. -/
structure QueueEntry where
  fan : Nat
  dir : Direction
deriving DecidableEq, Repr

/-- The live part of an installed feeder's record (R124). The start queue is kept in its two groups (R129): every
entry of `urgent` stands before every entry of `routine`. `settleTimer` holds the seconds left in SETTLING. -/
structure Feeder where
  state : FeederState
  settleTimer : Option Nat
  startingCount : Nat
  urgent : List QueueEntry
  routine : List QueueEntry
deriving DecidableEq, Repr

/-- The debounced inputs of a feeder group (R124), held for all four groups. -/
structure FeederInputs where
  avail : Bool
  vlow : Bool
deriving DecidableEq, Repr

/-! ### The airflow unit -/

/-- A sample of a channel's ring (R142). -/
structure Sample where
  velocity : Int
  quality : Quality
deriving DecidableEq, Repr

/-- The live record of an installed channel (R142), with the level its DIR and HEALTH lines were last seen at (R143).
`ring` runs from the oldest sample to the newest. The channel is valid exactly while `velocity` is present (R150). -/
structure Channel where
  pulseCount : Nat
  startDir : Direction
  dirChanged : Bool
  healthLost : Bool
  dirLine : Direction
  healthLine : Bool
  ring : List Sample
  velocity : Option Int
deriving DecidableEq, Repr

/-- The airflow unit: the live channel records, the published vm (R153), and the seconds the measurement-window timer
has counted while it runs (R144). -/
structure AirflowUnit where
  channels : List Channel
  vm : Option Int
  windowTimer : Option Nat
deriving DecidableEq, Repr

/-! ### The line controller -/

/-- The fire scenario record (R5). `plan` is none for DEFAULT. -/
structure Scenario where
  chainage : Nat
  direction : Direction
  fireClass : Nat
  trainLength : Nat
  target : Nat
  pendingTarget : Option Nat
  fullThrust : Bool
  pendingFullThrust : Option Bool
  windowLow : Nat
  windowHigh : Nat
  plan : Option Nat
  preference : List Nat
  required : Nat
  trim : Int
  lowCount : Nat
  highCount : Nat
  membershipChanged : Bool
  shortfall : Bool
deriving DecidableEq, Repr

/-- A member record of the duty set (R52). The join position is the member's place in the list. -/
structure Member where
  fan : Nat
  reason : JoinReason
  counted : Nat
  expired : Bool
deriving DecidableEq, Repr

/-- The line controller: the line mode, the scenario record, the duty set, the control-period counter with its run
state (R75), `boundaryDue`: a window end has made a boundary that has not been taken yet, with the vm that window end
published (R77), `overtaken`: a STAND_DOWN was taken before such a boundary, whose window end is still to be counted
from zero (R89), and `reports`: the fans whose loss the fan supervisor has reported and the line controller has not yet
taken, oldest first (R57, R69, R89; notes/assumptions 24). -/
structure LineController where
  mode : LineMode
  scenario : Option Scenario
  duty : List Member
  counting : Bool
  windowCount : Nat
  boundaryDue : Option (Option Int)
  overtaken : Bool
  reports : List Nat
deriving DecidableEq, Repr

/-! ### The event latch -/

/-- The present truth of the five level conditions (R174). -/
structure Levels where
  shortfall : Bool
  feedbackLost : Bool
  feederHold : Bool
  feederDead : Bool
  airflowFault : Bool
deriving DecidableEq, Repr

/-- No level condition holds (R178). -/
def Levels.allFalse : Levels :=
  { shortfall := false, feedbackLost := false, feederHold := false, feederDead := false, airflowFault := false }

/-- The event latch (R174): the event set and the mask (1 is unmasked, R177), each with bit n for the kind of that
number, the level conditions, and `ask`: within one operation, an ATTENTION asked of the control link and not yet
considered (R164, R175). It is no between operations. -/
structure EventLatch where
  set : BitVec 12
  mask : BitVec 12
  levels : Levels
  ask : Bool
deriving DecidableEq, Repr

/-! ### The control link -/

/-- The scenario fields of a STATUS reply (R168). -/
structure ScenarioReport where
  chainage : Nat
  direction : Direction
  fireClass : Nat
  trainLength : Nat
  target : Nat
  pendingTarget : Option Nat
  fullThrust : Bool
  pendingFullThrust : Option Bool
  windowLow : Nat
  windowHigh : Nat
  plan : Option Nat
  lowCount : Nat
  highCount : Nat
  preference : List Nat
deriving DecidableEq, Repr

/-- The STATUS reply (R168), its fields in the order of spec/09 section 9.6. -/
structure StatusReply where
  mode : LineMode
  loadFault : LoadFault
  eventsPending : Bool
  goodFrames : Nat
  crcErrors : Nat
  discards : Nat
  feeders : List FeederState
  vm : Option Int
  required : Nat
  dutySize : Nat
  countedSum : Nat
  runningSum : Nat
  shortfall : Bool
  trim : Int
  scenario : Option ScenarioReport
deriving DecidableEq, Repr

/-- The FAN reply (R118), its fields in the order of spec/09 section 9.6. The running direction and the start phase
are those the state carries. -/
structure FanReply where
  fan : Nat
  static : FanStatic
  state : FanState
  demand : Demand
  coastRemaining : Nat
  restartUsed : Bool
  lockout : Bool
  lastFault : LastFault
  exposure : Nat
  expired : Bool
  fb : Bool
  trip : Bool
  iso : Bool
  hotSide : Bool
  excluded : Bool
  dutyPosition : Option Nat
deriving DecidableEq, Repr

/-- A start-queue entry as the QUEUE reply lists it (R137). -/
structure QueueItem where
  fan : Nat
  cls : DemandClass
  dir : Direction
deriving DecidableEq, Repr

/-- The QUEUE reply (R137). -/
structure QueueReply where
  feeder : Nat
  state : FeederState
  settleRemaining : Option Nat
  slots : Nat
  startingCount : Nat
  avail : Bool
  vlow : Bool
  entries : List QueueItem
deriving DecidableEq, Repr

/-- One channel of the AIRFLOW reply (R155). `side` is none outside FIRE. -/
structure ChannelReport where
  samples : Nat
  newest : Option Sample
  valid : Bool
  velocity : Option Int
  side : Option Side
deriving DecidableEq, Repr

/-- The records the module sends (spec/09 section 9.6). -/
inductive Reply where
  | ident (image : Option (BitVec 32 × BitVec 16))
  | status (r : StatusReply)
  | fan (r : FanReply)
  | fanTable (states : List FanState)
  | duty (members : List Member)
  | queue (r : QueueReply)
  | airflow (vm : Option Int) (channels : List ChannelReport)
  | events (set : BitVec 12)
  | accept (type : Byte)
  | refuse (type : Byte) (reason : RefuseReason)
  | attention
deriving DecidableEq, Repr

/-- The control link: the receive framer with the time since the last byte in milliseconds (R160), the transmit queue,
oldest first (R165), the bytes of the frame last sent whole on the transmit line (the model's own view of that line,
notes/assumptions 9), the three link counts (R162, R163), and the watchdog (R169). -/
structure ControlLink where
  framer : Framer
  gapMs : Nat
  tx : List Reply
  lastSent : List Byte
  goodFrames : Nat
  crcErrors : Nat
  discards : Nat
  watchdog : Watchdog
deriving DecidableEq, Repr

/-! ### The image loader -/

/-- The image loader (R181, R184): the load state, the load fault cause, the LOAD_ERROR output, and the debounced
level of the RELOAD input as its last event left it. -/
structure ImageLoader where
  load : LoadState
  fault : LoadFault
  loadError : Bool
  reloadInput : Bool
deriving DecidableEq, Repr

/-! ### The whole -/

/-- The state of the block. `pending` is the queue of the commands that wait, first in, first out. `image` is the line
image in use, none between a full reset and the first good load (R91, R123, R141). `fans` holds one live record for
each fan group supervised: all 64 before the first good load, then the installed fans (R91, R121). `feeders` holds the
installed feeders. `freeIndex` is the model's own: it numbers the free values used (notes/assumptions 4). -/
structure State where
  pending : List Instr
  image : Option LineImage
  line : LineController
  fans : List Fan
  feeders : List Feeder
  feederInputs : List FeederInputs
  air : AirflowUnit
  link : ControlLink
  loader : ImageLoader
  events : EventLatch
  freeIndex : Nat
deriving DecidableEq, Repr

/-- The machine right after a full reset: R1 and R181 (LOADING, the load started), R120 (fans), R138 (feeders), R157
(airflow), R75 (counter), R171 (link), R178 (events), R184 (RELOAD level). -/
def State.reset : State where
  pending := []
  image := none
  line := { mode := .loading, scenario := none, duty := [], counting := false, windowCount := 0, boundaryDue := none,
            overtaken := false, reports := [] }
  fans := List.replicate Config.fanGroups Fan.afterReset
  feeders := []
  feederInputs := List.replicate Config.feederGroups { avail := false, vlow := false }
  air := { channels := [], vm := none, windowTimer := none }
  link := { framer := .hunting, gapMs := 0, tx := [], lastSent := [], goodFrames := 0, crcErrors := 0, discards := 0,
            watchdog := .stopped }
  loader := { load := .reading, fault := .none, loadError := false, reloadInput := false }
  events := { set := 0#12, mask := 0xFFF#12, levels := Levels.allFalse, ask := false }
  freeIndex := 0

/-- The faults of the block: none. No rule of spec/ lets a command stop the part; every command has an effect, which
may be a REFUSE reply or no change at all. -/
inductive Fault where
deriving DecidableEq, Repr

/-- The refusals of the model. -/
inductive Refusal where
  /-- Raised by an arm of `exec` whose command has no meaning yet; no arm raises it. Safe: the machine stops. -/
  | notModelled (mnemonic : String)
deriving DecidableEq, Repr

end Sys2Proof.Machine
end

