-- ==== Sys2Proof/Machine/Bits.lean ====
section
/-! DEFINITION. Byte order, the 16-bit check, and the manual's roundings: the helpers every other file uses. -/

namespace Sys2Proof.Machine

/-- A two-byte field, most significant byte first (spec/00 section 4.6). -/
def be16 (hi lo : Byte) : Nat := hi.toNat * 256 + lo.toNat

/-- A field of any size, most significant byte first (R159, R179). -/
def beNat : List Byte → Nat
  | [] => 0
  | b :: bs => b.toNat * 256 ^ bs.length + beNat bs

/-- A number as a one-byte field. -/
def byte1 (n : Nat) : List Byte := [BitVec.ofNat 8 n]

/-- A number as a two-byte field, most significant byte first (R159). -/
def byte2 (n : Nat) : List Byte := [BitVec.ofNat 8 (n / 256), BitVec.ofNat 8 n]

/-- A number as a four-byte field, most significant byte first (R159). -/
def byte4 (n : Nat) : List Byte := byte2 (n / 65536) ++ byte2 n

/-- A signed number as a two-byte two's complement field (spec/09 section 9.6). -/
def byte2s (z : Int) : List Byte := byte2 (BitVec.ofInt 16 z).toNat

/-- A signed number as a one-byte two's complement field (spec/09 section 9.6). -/
def byte1s (z : Int) : List Byte := byte1 (BitVec.ofInt 8 z).toNat

/-- A flag: 0 for no or inactive, 1 for yes or active (spec/09 section 9.6). -/
def byteFlag (b : Bool) : List Byte := byte1 (if b then 1 else 0)

/-- An optional field: a presence byte, then the field when it is present (spec/09 section 9.6). -/
def byteOption {α : Type} (enc : α → List Byte) : Option α → List Byte
  | none => byte1 0
  | some a => byte1 1 ++ enc a

/-- One step of the check: shift out the most significant bit, and subtract the generator 0x1021 when it was 1 (R161).
-/
def crcBit (c : BitVec 16) : BitVec 16 :=
  if c.getLsbD 15 then (c <<< 1) ^^^ 0x1021#16 else c <<< 1

/-- One byte entered into the check, most significant bit first (R161). -/
def crcByte (c : BitVec 16) (b : Byte) : BitVec 16 :=
  crcBit (crcBit (crcBit (crcBit (crcBit (crcBit (crcBit (crcBit (c ^^^ (b.zeroExtend 16 <<< 8)))))))))

/-- The 16-bit check of link frames and of the line image, from the initial value 0xFFFF (R161, R179). -/
def crc16 (bytes : List Byte) : BitVec 16 := bytes.foldl crcByte 0xFFFF#16

/-- Division rounded up (spec/00 section 4.3). -/
def ceilDiv (a b : Nat) : Nat := (a + b - 1) / b

/-- A value clamped to lo..hi (spec/00 section 4.3). -/
def clampNat (lo hi n : Nat) : Nat := if n < lo then lo else if n > hi then hi else n

/-- A mean rounded toward zero, whatever the sign of the sum (spec/00 section 4.3); none for no terms. -/
def meanTowardZero (zs : List Int) : Option Int :=
  if zs.isEmpty then none else some (zs.sum.tdiv zs.length)

/-- The other direction. -/
def Direction.opposite : Direction → Direction
  | .forward => .reverse
  | .reverse => .forward

/-- The direction a DIR line's level stands for: active is REVERSE (spec/00 section 4.5). -/
def directionOfLevel (active : Bool) : Direction := if active then .reverse else .forward

/-- The direction a direction code names (spec/09 section 9.6); none for a code outside the list. -/
def directionOfCode (code : Nat) : Option Direction :=
  if code = 0 then some .forward else if code = 1 then some .reverse else none

end Sys2Proof.Machine
end

