-- ==== Sys2Proof/Machine/Flags.lean ====
section
/-! DEFINITION. The event latch (Chapter 10): latching of edge and level kinds, the mask, the read, and the ask for an
ATTENTION (R174 to R178). -/

namespace Sys2Proof.Machine

/-- The bit number of an event kind (spec/10 section 10.1). -/
def EventKind.bit : EventKind → Nat
  | .fireMode => 0
  | .dutyChange => 1
  | .shortfall => 2
  | .feedbackLost => 3
  | .fanFault => 4
  | .fanExpired => 5
  | .feederHold => 6
  | .feederDead => 7
  | .airflowFault => 8
  | .linkLost => 9
  | .linkError => 10
  | .reloadIgnored => 11

/-- The event set that holds one kind alone. -/
def EventKind.flag (k : EventKind) : BitVec 12 := 1#12 <<< k.bit

/-- The five level kinds whose conditions hold, as an event set (R174). -/
def Levels.flags (l : Levels) : BitVec 12 :=
  (if l.shortfall then EventKind.shortfall.flag else 0#12)
  ||| (if l.feedbackLost then EventKind.feedbackLost.flag else 0#12)
  ||| (if l.feederHold then EventKind.feederHold.flag else 0#12)
  ||| (if l.feederDead then EventKind.feederDead.flag else 0#12)
  ||| (if l.airflowFault then EventKind.airflowFault.flag else 0#12)

/-- The kinds latched into the event set, which asks for an ATTENTION when it was empty (R175). Masked kinds among
`kinds` are not latched (R174). -/
def EventLatch.latch (e : EventLatch) (kinds : BitVec 12) : EventLatch :=
  let new := kinds &&& e.mask
  { e with set := e.set ||| new, ask := e.ask || (decide (e.set = 0#12) && !decide (new = 0#12)) }

/-- An owner raises an edge kind (R174). -/
def EventLatch.raise (e : EventLatch) (k : EventKind) : EventLatch := e.latch k.flag

/-- The SHORTFALL condition as its owner reports it; becoming true latches the kind (R174). -/
def EventLatch.reportShortfall (e : EventLatch) (holds : Bool) : EventLatch :=
  let e' := { e with levels := { e.levels with shortfall := holds } }
  if holds && !e.levels.shortfall then e'.latch EventKind.shortfall.flag else e'

/-- The FEEDBACK_LOST condition as its owner reports it (R88, R174). -/
def EventLatch.reportFeedbackLost (e : EventLatch) (holds : Bool) : EventLatch :=
  let e' := { e with levels := { e.levels with feedbackLost := holds } }
  if holds && !e.levels.feedbackLost then e'.latch EventKind.feedbackLost.flag else e'

/-- The FEEDER_HOLD condition as its owner reports it (R136, R174). -/
def EventLatch.reportFeederHold (e : EventLatch) (holds : Bool) : EventLatch :=
  let e' := { e with levels := { e.levels with feederHold := holds } }
  if holds && !e.levels.feederHold then e'.latch EventKind.feederHold.flag else e'

/-- The FEEDER_DEAD condition as its owner reports it (R136, R174). -/
def EventLatch.reportFeederDead (e : EventLatch) (holds : Bool) : EventLatch :=
  let e' := { e with levels := { e.levels with feederDead := holds } }
  if holds && !e.levels.feederDead then e'.latch EventKind.feederDead.flag else e'

/-- The AIRFLOW_FAULT condition as its owner reports it (R154, R174). -/
def EventLatch.reportAirflowFault (e : EventLatch) (holds : Bool) : EventLatch :=
  let e' := { e with levels := { e.levels with airflowFault := holds } }
  if holds && !e.levels.airflowFault then e'.latch EventKind.airflowFault.flag else e'

/-- READ_EVENTS empties the event set and latches again each unmasked level kind whose condition holds; this asks for
no ATTENTION (R175, R176). -/
def EventLatch.read (e : EventLatch) : EventLatch := { e with set := e.levels.flags &&& e.mask }

/-- SET_EVENT_MASK replaces the mask. Newly masked kinds leave the set; then each newly unmasked level kind whose
condition holds is latched, which asks for an ATTENTION when the set is then empty (R175, R177; that the removals come
first is DEDUCED, notes/assumptions 12). -/
def EventLatch.setMask (e : EventLatch) (mask : BitVec 12) : EventLatch :=
  let newlyMasked := e.mask &&& ~~~mask
  let newlyUnmasked := mask &&& ~~~e.mask
  { e with set := e.set &&& ~~~newlyMasked, mask := mask }.latch (e.levels.flags &&& newlyUnmasked)

end Sys2Proof.Machine
end

