-- ==== Sys2Proof/Machine/Operands.lean ====
section
/-! DEFINITION. The operand forms of the commands: the payloads of the requests, byte by byte (spec/09 section 9.6).
A form answers none for every payload length the request does not allow, which is refused BAD_LENGTH (R164). -/

namespace Sys2Proof.Machine

/-- The payload of ACTIVATE_FIRE (R6): the target is absent in the 6-byte form and present in the 8-byte form. -/
structure FireRequest where
  chainage : Nat
  directionCode : Nat
  fireClass : Nat
  trainLength : Nat
  target : Option Nat
deriving DecidableEq, Repr

/-- A request without a payload. -/
def operandNone : List Byte → Option Unit
  | [] => some ()
  | _ => none

/-- One one-byte field: a fan, a feeder or a setting. -/
def operandByte : List Byte → Option Nat
  | [b] => some b.toNat
  | _ => none

/-- One two-byte field: a velocity or a mask. -/
def operandWord : List Byte → Option Nat
  | [hi, lo] => some (be16 hi lo)
  | _ => none

/-- A fan and an action (R115). -/
def operandFanAction : List Byte → Option (Nat × Nat)
  | [fan, action] => some (fan.toNat, action.toNat)
  | _ => none

/-- The two forms of ACTIVATE_FIRE (R6). -/
def operandFire : List Byte → Option FireRequest
  | [c1, c0, d, k, t1, t0] =>
    some { chainage := be16 c1 c0, directionCode := d.toNat, fireClass := k.toNat, trainLength := be16 t1 t0,
           target := none }
  | [c1, c0, d, k, t1, t0, v1, v0] =>
    some { chainage := be16 c1 c0, directionCode := d.toNat, fireClass := k.toNat, trainLength := be16 t1 t0,
           target := some (be16 v1 v0) }
  | _ => none

/-- What a FAN_COMMAND action code asks for (R115): STOP, RUN_FWD or RUN_REV as the demand it writes; none for a code
that names none of the three. -/
def demandOfAction (code : Nat) : Option Demand :=
  if code = 0 then some .none
  else if code = 1 then some (.run .forward .routine)
  else if code = 2 then some (.run .reverse .routine)
  else none

/-- The setting a FULL_THRUST code names (R81). -/
def settingOfCode (code : Nat) : Option Bool :=
  if code = 0 then some false else if code = 1 then some true else none

end Sys2Proof.Machine
end

