-- ==== Sys2Proof/Machine/Ops.lean ====
section
/-! DEFINITION. The named operations over the state: reading and changing a fan, a feeder, the scenario record, the
event latch and the link, and the figures of the line image in use. Every other file changes the state through these. -/

namespace Sys2Proof.Machine

/-! ### Fans -/

/-- A fan state in which the fan is usable (spec/06 section 6.4). -/
def FanState.isWorking : FanState → Bool
  | .idle | .queued | .starting _ _ | .running _ | .coasting => true
  | .tripped | .failed | .isolated | .unpowered => false

/-- A fan state in which the fan is lost (spec/06 section 6.4). -/
def FanState.isHolding (f : FanState) : Bool := !f.isWorking

/-- The fan is in STARTING. -/
def FanState.isStarting : FanState → Bool
  | .starting _ _ => true
  | _ => false

/-- The running direction, present in STARTING and RUNNING (R92). -/
def FanState.dir? : FanState → Option Direction
  | .starting d _ => some d
  | .running d => some d
  | _ => none

/-- The number of fans with a live record: the 64 groups before the first good load, then the fan count (R91). -/
def State.fanCount (s : State) : Nat := s.fans.length

/-- The live record of fan `i`. A fan without one reads as after a full reset and is never changed. -/
def State.fan (s : State) (i : Nat) : Fan := s.fans.getD i Fan.afterReset

/-- Change the live record of fan `i`; a fan without a record stays without. -/
def State.modifyFan (s : State) (i : Nat) (f : Fan → Fan) : State := { s with fans := s.fans.modify i f }

/-- The static record of fan `i` in the image in use (R91). -/
def State.fanStatic? (s : State) (i : Nat) : Option FanStatic := s.image.bind (fun m => m.fans[i]?)

/-- The coast time of fan `i`, in seconds: the image's, or 600 before the first good load (R91). -/
def State.coastTime (s : State) (i : Nat) : Nat :=
  match s.fanStatic? i with
  | some f => f.coastTime
  | none => Config.interimCoastTime

/-- The start time of fan `i`, in seconds (R91). No fan starts before the first good load (R4). -/
def State.startTime (s : State) (i : Nat) : Nat :=
  match s.fanStatic? i with
  | some f => f.startTime
  | none => 0

/-- The feedback allowance, in seconds: the image's, or 10 before the first good load (R91). -/
def State.feedbackAllowance (s : State) : Nat :=
  match s.image with
  | some m => m.tunnel.feedbackAllowance
  | none => Config.interimFeedbackAllowance

/-- The feeder of fan `i`; none before the first good load (R91). -/
def State.feederOf (s : State) (i : Nat) : Option Nat := (s.fanStatic? i).map (fun f => f.feeder)

/-- The coast timer of fan `i` has reached the coast time (R92). -/
def State.coastExpired (s : State) (i : Nat) : Bool := decide (s.coastTime i ≤ (s.fan i).coastTimer)

/-- RUN turns off: the coast timer starts from 0 (R103), and the stuck-running timer starts at the feedback allowance
if FB is active (R106). -/
def Fan.runOff (f : Fan) (allowance : Nat) : Fan :=
  { f with run := false, coastTimer := 0, stuckTimer := if f.fb then some allowance else none }

/-- RUN turns off if it was on (R113, step 1). -/
def Fan.stopRun (f : Fan) (allowance : Nat) : Fan := if f.run then f.runOff allowance else f

/-! ### Feeders -/

/-- The number of installed feeders (R123). -/
def State.feederCount (s : State) : Nat := s.feeders.length

/-- Change the record of feeder `n`; a feeder without a record stays without. -/
def State.modifyFeeder (s : State) (n : Nat) (f : Feeder → Feeder) : State :=
  { s with feeders := s.feeders.modify n f }

/-- The start slots S of feeder `n` (R123). -/
def State.slots (s : State) (n : Nat) : Nat :=
  match s.image.bind (fun m => m.feeders[n]?) with
  | some f => f.slots
  | none => 0

/-- The settle time of feeder `n`, in seconds (R123). -/
def State.settleTime (s : State) (n : Nat) : Nat :=
  match s.image.bind (fun m => m.feeders[n]?) with
  | some f => f.settleTime
  | none => 0

/-- The state of feeder `n`; none when it is not installed. -/
def State.feederState (s : State) (n : Nat) : Option FeederState := (s.feeders[n]?).map (fun f => f.state)

/-- The feeder of fan `i` is DEAD. A fan without a feeder is never on a dead one (R91). -/
def State.onDeadFeeder (s : State) (i : Nat) : Bool :=
  match s.feederOf i with
  | some n => decide (s.feederState n = some .dead)
  | none => false

/-- The feeder of fan `i` is READY. A fan without a feeder has none to wait for. -/
def State.onReadyFeeder (s : State) (i : Nat) : Bool :=
  match s.feederOf i with
  | some n => decide (s.feederState n = some .ready)
  | none => false

/-- The debounced inputs of feeder group `n` (R124). -/
def State.inputs (s : State) (n : Nat) : FeederInputs := s.feederInputs.getD n { avail := false, vlow := false }

/-- Change the debounced inputs of feeder group `n`. -/
def State.modifyInputs (s : State) (n : Nat) (f : FeederInputs → FeederInputs) : State :=
  { s with feederInputs := s.feederInputs.modify n f }

/-! ### Events -/

/-- An owner raises an edge kind into the event latch (R174). -/
def State.raise (s : State) (k : EventKind) : State := { s with events := s.events.raise k }

/-- The SHORTFALL condition, taken afresh: the line is in FIRE and the stored shortfall is yes (R65). -/
def State.refreshShortfall (s : State) : State :=
  let stored := match s.line.scenario with | some sc => sc.shortfall | none => false
  { s with events := s.events.reportShortfall (decide (s.line.mode = .fire) && stored) }

/-- The FEEDBACK_LOST condition, taken afresh: the line is in FIRE and vm is unavailable (R88). -/
def State.refreshFeedbackLost (s : State) : State :=
  { s with events := s.events.reportFeedbackLost (decide (s.line.mode = .fire) && s.air.vm.isNone) }

/-- The two feeder conditions, taken afresh from the installed feeders (R136). -/
def State.refreshFeederLevels (s : State) : State :=
  let hold := s.feeders.any (fun f => decide (f.state = .hold) || decide (f.state = .settling))
  let dead := s.feeders.any (fun f => decide (f.state = .dead))
  { s with events := (s.events.reportFeederHold hold).reportFeederDead dead }

/-- A newest sample that makes AIRFLOW_FAULT hold (R154). -/
def Sample.isFaulty (x : Sample) : Bool := decide (x.quality = .unhealthy) || decide (x.quality = .ambiguous)

/-- The AIRFLOW_FAULT condition, taken afresh from each channel's newest sample (R154). -/
def State.refreshAirflowFault (s : State) : State :=
  let faulty := s.air.channels.any (fun c => match c.ring.getLast? with | some x => x.isFaulty | none => false)
  { s with events := s.events.reportAirflowFault faulty }

/-! ### The control link's queue -/

/-- Append a frame at the back of the transmit queue (R165). -/
def ControlLink.append (l : ControlLink) (r : Reply) : ControlLink := { l with tx := l.tx ++ [r] }

/-- The link can take an ATTENTION: the queue holds none and has room (R166). -/
def ControlLink.canAttend (l : ControlLink) : Bool :=
  decide (l.tx.length < Config.txCapacity) && !(l.tx.contains .attention)

/-- The event latch's ask, considered at the end of the operation that made it: an ATTENTION is appended or the ask is
dropped (R166, R175). -/
def State.settle (s : State) : State :=
  { s with
    link := if s.events.ask && s.link.canAttend then s.link.append .attention else s.link
    events := { s.events with ask := false } }

/-! ### The line controller's record -/

/-- Change the scenario record, where one is present. -/
def State.modifyScenario (s : State) (f : Scenario → Scenario) : State :=
  { s with line := { s.line with scenario := s.line.scenario.map f } }

/-- Replace the duty set. -/
def State.setDuty (s : State) (duty : List Member) : State := { s with line := { s.line with duty := duty } }

/-- The line mode moves. -/
def State.setMode (s : State) (m : LineMode) : State := { s with line := { s.line with mode := m } }

/-- Fan `i` is a member of the duty set. -/
def State.isMember (s : State) (i : Nat) : Bool := s.line.duty.any (fun m => decide (m.fan = i))

/-- No image is in use for requests: LOADING and CONFIG_FAULT (R164, check 2). -/
def State.noImage (s : State) : Bool := decide (s.line.mode = .loading) || decide (s.line.mode = .configFault)

/-- Apply an operation to each number of a list in turn. -/
def forEach (op : State → Nat → State) (s : State) (l : List Nat) : State := l.foldl op s

end Sys2Proof.Machine
end

