-- ==== Sys2Proof/Machine/Thrust.lean ====
section
/-! DEFINITION. Where a chainage stands in a scenario (R9, R10) and the thrust balance (Chapter 2), stage by stage. -/

namespace Sys2Proof.Machine

/-! ### The exclusion window and the sides -/

/-- The two ends of the exclusion window (R9), each clamped to 0..L. Subtraction of naturals stops at 0, which is the
clamp at the lower end of the bore. -/
def exclusionWindow (length fire : Nat) (d : Direction) (radiusUp radiusDown : Nat) : Nat × Nat :=
  match d with
  | .forward => (min length (fire - radiusUp), min length (fire + radiusDown))
  | .reverse => (min length (fire - radiusDown), min length (fire + radiusUp))

/-- The side of a chainage in a scenario (R10). -/
def Scenario.sideOf (sc : Scenario) (x : Nat) : Side :=
  match sc.direction with
  | .forward => if sc.chainage ≤ x then .hot else if x < sc.windowLow then .cold else .neither
  | .reverse => if x ≤ sc.chainage then .hot else if sc.windowHigh < x then .cold else .neither

/-- The excluded flag of a chainage in a scenario: it lies in the closed window (R9, R10). -/
def Scenario.excludes (sc : Scenario) (x : Nat) : Bool := decide (sc.windowLow ≤ x) && decide (x ≤ sc.windowHigh)

/-! ### Required thrust -/

/-- Stage 1, dynamic pressure in millipascals (R22). -/
def dynamicPressure (density target : Nat) : Nat := density * target ^ 2 / 20000

/-- Stage 2, loss factor in hundredths (R22). -/
def lossFactor (base train trainLength : Nat) : Nat := base + train * trainLength / 100

/-- Stage 3, resistance pressure in millipascals (R23). -/
def resistancePressure (loss pressure : Nat) : Nat := loss * pressure / 100

/-- Stage 4, total pressure in millipascals (R23). -/
def totalPressure (resistance firePressure wind : Nat) : Nat := resistance + 1000 * firePressure + 1000 * wind

/-- Stage 5, required thrust in newtons, rounded up (R24). -/
def thrustOfPressure (total crossSection : Nat) : Nat := ceilDiv (total * crossSection) 10000

/-- The required thrust of a target, a train length and a fire pressure in a tunnel (R22 to R24). -/
def requiredThrust (t : Tunnel) (firePressure target trainLength : Nat) : Nat :=
  thrustOfPressure
    (totalPressure (resistancePressure (lossFactor t.baseLoss t.trainLoss trainLength) (dynamicPressure t.density target))
      firePressure t.windAllowance)
    t.crossSection

/-! ### Counted thrust -/

/-- Stage 1, installed thrust in newtons (R26). -/
def installedThrust (rated installation : Nat) : Nat := rated * installation / 100

/-- Stage 2, slip in permille (R26). -/
def slipOf (target jetVelocity : Nat) : Nat := 1000 - ceilDiv (target * 100) jetVelocity

/-- Stage 3, slip-reduced thrust in newtons (R27). -/
def slipThrust (installed slip : Nat) : Nat := installed * slip / 1000

/-- Stage 4, the direction stage (R27). -/
def directionThrust (b : Nat) (d primary : Direction) (reverseRatio : Nat) : Nat :=
  if d = primary then b else b * reverseRatio / 100

/-- Stage 5, the smoke stage (R27). -/
def smokeThrust (c : Nat) (side : Side) (derating : Nat) : Nat := if side = .hot then c * derating / 100 else c

/-- The counted thrust of a fan: 0 when its expired flag is set (R28), otherwise the result of the five stages. -/
def countedThrust (t : Tunnel) (f : FanStatic) (target : Nat) (d : Direction) (side : Side) (expired : Bool) : Nat :=
  if expired then 0
  else
    smokeThrust
      (directionThrust (slipThrust (installedThrust f.ratedThrust f.installation) (slipOf target t.jetVelocity))
        d f.primary f.reverseRatio)
      side t.smokeDerating

/-! ### The figures of the image in use -/

/-- The entry of the class table for a fire class (R179); none without an image. -/
def State.fireClass? (s : State) (k : Nat) : Option FireClass := s.image.bind (fun m => m.classes[k]?)

/-- The tunnel figures of the image in use. -/
def State.tunnel? (s : State) : Option Tunnel := s.image.map (fun m => m.tunnel)

/-- The chainage of fan `i` (R91). -/
def State.fanChainage (s : State) (i : Nat) : Nat :=
  match s.fanStatic? i with
  | some f => f.chainage
  | none => 0

/-- The side of fan `i` in a scenario (R10). -/
def State.fanSide (s : State) (sc : Scenario) (i : Nat) : Side := sc.sideOf (s.fanChainage i)

/-- The excluded flag of fan `i` in a scenario (R10). -/
def State.fanExcluded (s : State) (sc : Scenario) (i : Nat) : Bool := sc.excludes (s.fanChainage i)

/-- The required thrust of a scenario with the figures in use (R25). -/
def State.requiredFor (s : State) (sc : Scenario) : Nat :=
  match s.tunnel?, s.fireClass? sc.fireClass with
  | some t, some k => requiredThrust t k.firePressure sc.target sc.trainLength
  | _, _ => 0

/-- The counted thrust of fan `i` in a scenario, with the figures in effect (R29). -/
def State.countedFor (s : State) (sc : Scenario) (i : Nat) : Nat :=
  match s.tunnel?, s.fanStatic? i with
  | some t, some f => countedThrust t f sc.target sc.direction (s.fanSide sc i) (s.fan i).expired
  | _, _ => 0

end Sys2Proof.Machine
end

