-- ==== Sys2Proof/Machine/Airflow.lean ====
section
/-! DEFINITION. The airflow unit: windows, samples, rings, channel validity and velocity, vm (Chapter 8). -/

namespace Sys2Proof.Machine

/-- A window of a channel begins from the levels of its lines (R145). -/
def Channel.beginWindow (c : Channel) (dir : Direction) (healthy : Bool) : Channel :=
  { c with pulseCount := 0, startDir := dir, dirChanged := false, healthLost := !healthy, dirLine := dir,
           healthLine := healthy }

/-- The live record of a channel before its first window (R157, R158). The start direction and the two line levels,
which no rule gives until the first window begins, stand at inactive (DESIGN CHOICE, notes/assumptions 18). -/
def Channel.cleared : Channel :=
  { pulseCount := 0, startDir := .forward, dirChanged := false, healthLost := false, dirLine := .forward,
    healthLine := false, ring := [], velocity := none }

/-- The magnitude the pulse count scales to, in cm/s, rounded down (R147). -/
def scaledMagnitude (count windowSeconds scale : Nat) : Nat := count * 100 / (windowSeconds * scale)

/-- A sample is over range: its magnitude exceeds vmax, or its count is saturated (R147). -/
def overRange (count magnitude vmax : Nat) : Bool := decide (vmax < magnitude) || decide (count = Config.count16Max)

/-- The quality of a sample: the first row of R148 that applies. -/
def sampleQuality (healthLost dirChanged beyond : Bool) : Quality :=
  if healthLost then .unhealthy else if dirChanged then .ambiguous else if beyond then .overrange else .good

/-- The sample of the window just ended (R147, R148). Its sign is that of the start direction, or of the DIR level at
the window end when DIR has changed. -/
def Channel.sample (c : Channel) (st : ChannelStatic) (windowSeconds : Nat) : Sample :=
  let magnitude := scaledMagnitude c.pulseCount windowSeconds st.scale
  let clamped : Int := (min magnitude st.vmax : Nat)
  let dir := if c.dirChanged then c.dirLine else c.startDir
  { velocity := if dir = .forward then clamped else -clamped,
    quality := sampleQuality c.healthLost c.dirChanged (overRange c.pulseCount magnitude st.vmax) }

/-- A ring of four with a new sample at its newest end (R149). -/
def pushSample (ring : List Sample) (x : Sample) : List Sample :=
  if ring.length < 4 then ring ++ [x] else ring.drop (ring.length - 3) ++ [x]

/-- A sample counts toward validity and velocity (R150). -/
def Sample.isUsable (x : Sample) : Bool := decide (x.quality = .good) || decide (x.quality = .overrange)

/-- The channel velocity a ring gives: the mean of its usable samples, when there are at least two (R150). -/
def ringVelocity (ring : List Sample) : Option Int :=
  let usable := ring.filter Sample.isUsable
  if 2 ≤ usable.length then meanTowardZero (usable.map (fun x => x.velocity)) else none

/-- The channel is valid (R150). -/
def Channel.valid (c : Channel) : Bool := c.velocity.isSome

/-- Steps 1 to 3 of the window end for one channel (R146). -/
def Channel.endWindow (c : Channel) (st : ChannelStatic) (windowSeconds : Nat) : Channel :=
  let ring := pushSample c.ring (c.sample st windowSeconds)
  { c with ring := ring, velocity := ringVelocity ring }

/-- A pulse raises the count, which stays at 65,535 (R145). -/
def Channel.countPulse (c : Channel) : Channel := { c with pulseCount := min Config.count16Max (c.pulseCount + 1) }

/-- DIR changes level (R145). -/
def Channel.changeDir (c : Channel) : Channel := { c with dirLine := c.dirLine.opposite, dirChanged := true }

/-- HEALTH becomes inactive (R145). -/
def Channel.loseHealth (c : Channel) : Channel := { c with healthLine := false, healthLost := true }

/-- The static record of channel `n` (R141). -/
def State.channelStatic? (s : State) (n : Nat) : Option ChannelStatic := s.image.bind (fun m => m.channels[n]?)

/-- The side of channel `n` in a scenario (R10). -/
def State.channelSide (s : State) (sc : Scenario) (n : Nat) : Side :=
  match s.channelStatic? n with
  | some st => sc.sideOf st.chainage
  | none => .neither

/-- The airflow unit acts on the lines of channel `n`: the window timer runs and the channel is installed (R141,
R143). -/
def State.onChannel (s : State) (n : Nat) (f : Channel → Channel) : State :=
  match s.air.windowTimer with
  | some _ => { s with air := { s.air with channels := s.air.channels.modify n f } }
  | none => s

/-- A velocity taken in a direction: as it stands for FORWARD, negated for REVERSE (R151). -/
def inDirection (d : Direction) (v : Int) : Int :=
  match d with
  | .forward => v
  | .reverse => -v

/-- The measured line velocity (R151, R152): in FIRE the mean of the valid cold-side channels, taken in d; in NORMAL the
mean of all valid channels; unavailable in the other modes. -/
def State.formVm (s : State) : Option Int :=
  match s.line.mode, s.line.scenario with
  | .fire, some sc =>
    meanTowardZero ((s.air.channels.zipIdx.filterMap
      (fun p => if s.channelSide sc p.2 = .cold then p.1.velocity else none)).map (inDirection sc.direction))
  | .normal, _ => meanTowardZero (s.air.channels.filterMap (fun c => c.velocity))
  | _, _ => none

/-- vm is formed afresh and published, and the line controller takes FEEDBACK_LOST afresh from it (R88, R153). -/
def State.publishVm (s : State) : State := { s with air := { s.air with vm := s.formVm } }.refreshFeedbackLost

/-- The window length W of the image in use (R144). -/
def State.windowSeconds (s : State) : Nat :=
  match s.tunnel? with
  | some t => t.windowSeconds
  | none => 0

/-- Steps 1 to 3 of the window end for every installed channel at once (R146). -/
def State.takeSnapshot (s : State) : State :=
  { s with air := { s.air with channels := s.air.channels.zipIdx.map (fun p =>
      match s.channelStatic? p.2 with
      | some st => p.1.endWindow st s.windowSeconds
      | none => p.1) } }

/-- The next window of every channel begins (R145, R146 step 6): DIR at the level last seen, HEALTH at the level
sampled. -/
def State.beginWindows (s : State) (health : BitVec 16) : State :=
  { s with air := { s.air with
      channels := s.air.channels.zipIdx.map (fun p => p.1.beginWindow p.1.dirLine (health.getLsbD p.2)),
      windowTimer := some 0 } }

end Sys2Proof.Machine
end

