-- ==== Sys2Proof/Machine/Feeders.lean ====
section
/-! DEFINITION. The feeder arbiter's operations (Chapter 7): the start queue, granting and freeing of slots. -/

namespace Sys2Proof.Machine

/-- A granted fan enters STARTING in the RAMP phase: the running direction and DIR are set from the entry, RUN turns
on, and the ramp timer starts at the start time; the stuck-running timer is discarded as RUN turns on (R98, R106). -/
def Fan.start (f : Fan) (dir : Direction) (startTime : Nat) : Fan :=
  { f with state := .starting dir (.ramp startTime), dirOut := dir, run := true, stuckTimer := none }

/-- The head of a start queue: the first URGENT entry if there is one, otherwise the first ROUTINE entry (R129). -/
def Feeder.head? (f : Feeder) : Option QueueEntry :=
  match f.urgent, f.routine with
  | e :: _, _ => some e
  | [], e :: _ => some e
  | [], [] => none

/-- The queue without its head, one more fan starting (R134). -/
def Feeder.takeHead (f : Feeder) : Feeder :=
  match f.urgent, f.routine with
  | _ :: u, _ => { f with urgent := u, startingCount := f.startingCount + 1 }
  | [], _ :: r => { f with routine := r, startingCount := f.startingCount + 1 }
  | [], [] => f

/-- A grant may be made: the feeder is READY, a slot is free and an entry waits (R134). -/
def State.canGrant (s : State) (n : Nat) : Bool :=
  match s.feeders[n]? with
  | some f => decide (f.state = .ready) && decide (f.startingCount < s.slots n) && f.head?.isSome
  | none => false

/-- Grant the head of feeder `n`'s queue (R134). A fan is granted only from QUEUED (R98;
DESIGN CHOICE, notes/assumptions 22). -/
def State.grantHead (s : State) (n : Nat) : State :=
  match s.feeders[n]? with
  | none => s
  | some f =>
    match f.head? with
    | none => s
    | some e =>
      (s.modifyFeeder n Feeder.takeHead).modifyFan e.fan
        (fun x => if x.state = .queued then x.start e.dir (s.startTime e.fan) else x)

/-- Grant for as long as a slot is free and an entry waits; at most `fuel` grants. -/
def grantLoop : Nat → State → Nat → State
  | 0, s, _ => s
  | fuel + 1, s, n => if s.canGrant n then grantLoop fuel (s.grantHead n) n else s

/-- A grant is considered on feeder `n` (R134). There are at most as many grants as start slots, since each takes one.
-/
def State.considerGrant (s : State) (n : Nat) : State := grantLoop (s.slots n) s n

/-- An entry joins a class group at its end (R130). -/
def Feeder.join (f : Feeder) (e : QueueEntry) : DemandClass → Feeder
  | .urgent => { f with urgent := f.urgent ++ [e] }
  | .routine => { f with routine := f.routine ++ [e] }

/-- The entry of fan `i` leaves the queue from wherever it stands (R131). -/
def Feeder.remove (f : Feeder) (i : Nat) : Feeder :=
  { f with urgent := f.urgent.filter (fun e => !decide (e.fan = i)),
           routine := f.routine.filter (fun e => !decide (e.fan = i)) }

/-- The direction of fan `i`'s entry changes in place (R131). -/
def Feeder.redirect (f : Feeder) (i : Nat) (dir : Direction) : Feeder :=
  let turn := fun (e : QueueEntry) => if e.fan = i then { e with dir := dir } else e
  { f with urgent := f.urgent.map turn, routine := f.routine.map turn }

/-- Fan `i` has an entry in the group of class `c`. -/
def Feeder.inGroup (f : Feeder) (i : Nat) : DemandClass → Bool
  | .urgent => f.urgent.any (fun e => decide (e.fan = i))
  | .routine => f.routine.any (fun e => decide (e.fan = i))

/-- A standing entry takes a new demand: the same class changes its direction in place, another class moves it to the
end of that class's group (R97, R131). -/
def Feeder.retarget (f : Feeder) (i : Nat) (dir : Direction) (c : DemandClass) : Feeder :=
  if f.inGroup i c then f.redirect i dir else (f.remove i).join { fan := i, dir := dir } c

/-- Change the record of fan `i`'s feeder. -/
def State.onFeederOf (s : State) (i : Nat) (f : Feeder → Feeder) : State :=
  match s.feederOf i with
  | some n => s.modifyFeeder n f
  | none => s

/-- Consider a grant on fan `i`'s feeder. -/
def State.considerGrantFor (s : State) (i : Nat) : State :=
  match s.feederOf i with
  | some n => s.considerGrant n
  | none => s

/-- A start request: the entry joins its class group, and a grant is considered (R130, R134). -/
def State.requestStart (s : State) (i : Nat) (dir : Direction) (c : DemandClass) : State :=
  (s.onFeederOf i (fun f => f.join { fan := i, dir := dir } c)).considerGrantFor i

/-- Fan `i` has left STARTING: the starting count falls by 1 and a grant is considered (R101, R133). -/
def State.freeSlot (s : State) (i : Nat) : State :=
  (s.onFeederOf i (fun f => { f with startingCount := f.startingCount - 1 })).considerGrantFor i

end Sys2Proof.Machine
end

