-- ==== Sys2Proof/Machine/Demands.lean ====
section
/-! DEFINITION. The fan supervisor's answer to a demand (R95 to R97, R101 to R103). -/

namespace Sys2Proof.Machine

/-- A fan in IDLE that holds a run demand enters QUEUED and hands its start request over (R97). -/
def State.enterQueued (s : State) (i : Nat) (dir : Direction) (c : DemandClass) : State :=
  (s.modifyFan i (fun f => { f with state := .queued })).requestStart i dir c

/-- A fan with RUN on turns it off and enters COASTING (R96, R103). -/
def State.toCoasting (s : State) (i : Nat) : State :=
  s.modifyFan i (fun f => { f.runOff s.feedbackAllowance with state := .coasting })

/-- A STARTING fan turns RUN off, enters COASTING and frees its start slot (R96, R101). -/
def State.abandonStart (s : State) (i : Nat) : State := (s.toCoasting i).freeSlot i

/-- A QUEUED fan's entry leaves its queue and the fan enters IDLE (R96). -/
def State.leaveQueue (s : State) (i : Nat) : State :=
  (s.onFeederOf i (fun f => f.remove i)).modifyFan i (fun f => { f with state := .idle })

/-- The state of fan `i` acts on the demand just written (R96). -/
def State.actOnDemand (s : State) (i : Nat) (d : Demand) : State :=
  match (s.fan i).state, d with
  | .idle, .run x c => s.enterQueued i x c
  | .queued, .none => s.leaveQueue i
  | .queued, .run x c => s.onFeederOf i (fun f => f.retarget i x c)
  | .starting _ _, .none => s.abandonStart i
  | .starting r _, .run x _ => if x = r then s else s.abandonStart i
  | .running _, .none => s.toCoasting i
  | .running r, .run x _ => if x = r then s else s.toCoasting i
  | _, _ => s

/-- A demand is written to fan `i`: writing the demand already held changes nothing (R95), any other is stored and
acted on (R96). -/
def State.writeDemand (s : State) (i : Nat) (d : Demand) : State :=
  if (s.fan i).demand = d then s
  else (s.modifyFan i (fun f => { f with demand := d })).actOnDemand i d

/-- The demand NONE is written to a fan that is QUEUED. -/
def State.stopQueued (s : State) (i : Nat) : State :=
  if (s.fan i).state = .queued then s.writeDemand i .none else s

/-- The demand NONE is written to every fan in one operation (R17, R19, R122): every QUEUED fan leaves its queue and
becomes IDLE, so that the slots which the STARTING fans then free start no fan (R19, R132; the order among the fans is
DEDUCED, notes/assumptions 10). -/
def State.stopEveryFan (s : State) : State :=
  let fans := List.range s.fanCount
  forEach (fun s i => s.writeDemand i .none) (forEach State.stopQueued s fans) fans

end Sys2Proof.Machine
end

