-- ==== Sys2Proof/Machine/Plans.lean ====
section
/-! DEFINITION. Plan matching, descriptor expansion, the default order (Chapter 3). The fans are given by their
chainages, in fan number order: resolution reads no fan state (R47). -/

namespace Sys2Proof.Machine

/-- A plan covers a fire chainage: the closed interval lo..hi (R38). -/
def Plan.covers (p : Plan) (fire : Nat) : Bool := decide (p.lo ≤ fire) && decide (fire ≤ p.hi)

/-- The first plan in image order for the direction that covers the fire, with its number (R39); `n` is the number of
the first plan of the list. -/
def matchPlan (d : Direction) (fire : Nat) : List Plan → Nat → Option (Nat × Plan)
  | [], _ => none
  | p :: ps, n => if p.direction = d && p.covers fire then some (n, p) else matchPlan d fire ps (n + 1)

/-- The positions a descriptor walks in a table of `fanCount` fans (R40, R41): it starts at the first fan and stops
after `count` positions or at the end of the table in the step direction; a count of 0 walks to that end. -/
def Descriptor.positions (x : Descriptor) (fanCount : Nat) : List Nat :=
  if x.down then
    let reach := x.first + 1
    (List.range (if x.count = 0 then reach else min x.count reach)).map (fun j => x.first - j)
  else
    let reach := fanCount - x.first
    (List.range (if x.count = 0 then reach else min x.count reach)).map (fun j => x.first + j)

/-- A walked position adds its fan unless the fan is excluded (R43) or already on the list (R42). -/
def addPosition (sc : Scenario) (chainages : List Nat) (list : List Nat) (i : Nat) : List Nat :=
  if sc.excludes (chainages.getD i 0) || list.contains i then list else list ++ [i]

/-- The plan's own part of the list (R40 to R43). -/
def expandPlan (sc : Scenario) (chainages : List Nat) (p : Plan) : List Nat :=
  (p.descriptors.flatMap (fun x => x.positions chainages.length)).foldl (addPosition sc chainages) []

/-- The distance of a chainage from the fire, without sign (R46). -/
def distanceFrom (fire x : Nat) : Nat := if x ≤ fire then fire - x else x - fire

/-- Put a fan into a list ordered by distance, the greatest first; behind the fans at the same distance (R46). -/
def insertFarthest (fire : Nat) (chainages : List Nat) (i : Nat) : List Nat → List Nat
  | [] => [i]
  | j :: js =>
    if distanceFrom fire (chainages.getD j 0) < distanceFrom fire (chainages.getD i 0) then i :: j :: js
    else j :: insertFarthest fire chainages i js

/-- The fans of one side that are not excluded, the farthest first, in fan number order at the same distance (R46). -/
def sideOrder (sc : Scenario) (chainages : List Nat) (side : Side) : List Nat :=
  ((List.range chainages.length).filter
    (fun i => decide (sc.sideOf (chainages.getD i 0) = side) && !sc.excludes (chainages.getD i 0))).foldl
      (fun list i => insertFarthest sc.chainage chainages i list) []

/-- The default order: the cold side, then the hot side beyond the window (R46). -/
def defaultOrder (sc : Scenario) (chainages : List Nat) : List Nat :=
  sideOrder sc chainages .cold ++ sideOrder sc chainages .hot

/-- The plan in use and the preference list of a scenario (R39, R45): DEFAULT and the default order when no plan
matches; a plan's own list, completed by the default order when the plan is OPEN. -/
def resolvePreference (sc : Scenario) (plans : List Plan) (chainages : List Nat) : Option Nat × List Nat :=
  match matchPlan sc.direction sc.chainage plans 0 with
  | none => (none, defaultOrder sc chainages)
  | some (n, p) =>
    let own := expandPlan sc chainages p
    (some n, if p.isOpen then (defaultOrder sc chainages).foldl (addPosition sc chainages) own else own)

/-- The preference list is resolved afresh for the scenario record (R39, R47). -/
def State.resolvePlan (s : State) : State :=
  match s.image with
  | none => s
  | some m =>
    s.modifyScenario (fun sc =>
      let r := resolvePreference sc m.plans (m.fans.map (fun f => f.chainage))
      { sc with plan := r.1, preference := r.2 })

end Sys2Proof.Machine
end

