-- ==== Sys2Proof/Machine/Duty.lean ====
section
/-! DEFINITION. The duty set: joins, departures, the evaluation and member loss (Chapter 4). -/

namespace Sys2Proof.Machine

/-! ### Joining and leaving -/

/-- A fan joins the duty set at the back, with its demand RUN d of class URGENT; membership changed is set and
DUTY_CHANGE is raised (R53, R65). -/
def State.joinMember (s : State) (d : Direction) (i : Nat) (reason : JoinReason) (counted : Nat) : State :=
  let member : Member := { fan := i, reason := reason, counted := counted, expired := (s.fan i).expired }
  (((s.setDuty (s.line.duty ++ [member])).modifyScenario (fun sc => { sc with membershipChanged := true })).raise
    .dutyChange).writeDemand i (.run d .urgent)

/-- A fan's member record leaves the duty set and its demand becomes NONE; membership changed is set and DUTY_CHANGE
is raised (R54, R65). -/
def State.removeMember (s : State) (i : Nat) : State :=
  (((s.setDuty (s.line.duty.filter (fun m => !decide (m.fan = i)))).modifyScenario
    (fun sc => { sc with membershipChanged := true })).raise .dutyChange).writeDemand i .none

/-! ### The evaluation -/

/-- The fan passes the candidate test (R55). -/
def State.isCandidate (s : State) (sc : Scenario) (i : Nat) : Bool :=
  decide (i < s.fanCount) && !s.isMember i && !s.fanExcluded sc i && !(s.fan i).expired && (s.fan i).state.isWorking

/-- The candidates in preference-list order (R55). -/
def State.candidates (s : State) (sc : Scenario) : List Nat := sc.preference.filter (s.isCandidate sc)

/-- The members that are not expired, in join order. -/
def nonExpired (duty : List Member) : List Member := duty.filter (fun m => !m.expired)

/-- The sum of the stored counted thrust of members. -/
def countedSum (duty : List Member) : Nat := (duty.map (fun m => m.counted)).sum

/-- Stage 2, the sweep: every member whose fan is in a holding state is removed, in join order (R57). -/
def State.sweep (s : State) : State :=
  forEach State.removeMember s
    ((s.line.duty.filter (fun m => (s.fan m.fan).state.isHolding)).map (fun m => m.fan))

/-- Stage 3, recomputation: each member takes its fan's expired flag and its counted thrust afresh (R58). -/
def State.recompute (s : State) (sc : Scenario) : State :=
  s.setDuty (s.line.duty.map (fun m => { m with counted := s.countedFor sc m.fan, expired := (s.fan m.fan).expired }))

/-- The shortfall decided by the evaluation is stored, and its level condition reported (R65). -/
def State.recordShortfall (s : State) (short : Bool) : State :=
  (s.modifyScenario (fun sc => { sc with shortfall := short })).refreshShortfall

/-- Stage 4: every candidate joins with reason FULL (R59). -/
def joinAll (sc : Scenario) (s : State) (cands : List Nat) : State :=
  forEach (fun s i => s.joinMember sc.direction i .full (s.countedFor sc i)) s cands

/-- Stage 5: candidates join with reason NEED until the sum reaches the required thrust (R60). The answer is the state,
the sum reached and the candidates still remaining. -/
def joinNeeded (sc : Scenario) (required : Nat) : State → Nat → List Nat → State × Nat × List Nat
  | s, sum, [] => (s, sum, [])
  | s, sum, i :: is =>
    if required ≤ sum then (s, sum, i :: is)
    else
      let counted := s.countedFor sc i
      joinNeeded sc required (s.joinMember sc.direction i .need counted) (sum + counted) is

/-- The length of the shortest start of a list of figures whose sum, on top of `sum`, is at least `required`; the whole
length when none is (R60). -/
def needLength (required : Nat) : Nat → List Nat → Nat
  | _, [] => 0
  | sum, c :: cs => if required ≤ sum then 0 else needLength required (sum + c) cs + 1

/-- Stage 6, the size D (R62): k + Nred + t, raised to 1, then lowered to U; with U 0 it is 0. -/
def dutySize (k redundancy : Nat) (trim : Int) (available : Nat) : Nat :=
  min (max 1 ((k : Int) + redundancy + trim)).toNat available

/-- Stage 7, joins: candidates join until there are `size` non-expired members, with reason REDUNDANT for the first
Nred beyond k and TRIM after them (R63). -/
def joinToSize (sc : Scenario) (size k redundancy : Nat) : State → List Nat → State
  | s, [] => s
  | s, i :: is =>
    let count := (nonExpired s.line.duty).length
    if count < size then
      let reason := if count + 1 - k ≤ redundancy then JoinReason.redundant else JoinReason.trim
      joinToSize sc size k redundancy (s.joinMember sc.direction i reason (s.countedFor sc i)) is
    else s

/-- The last-joined non-expired member is released (R64). -/
def State.releaseLast (s : State) : State :=
  match (nonExpired s.line.duty).getLast? with
  | some m => s.removeMember m.fan
  | none => s

/-- Stage 7, releases: `n` times the last-joined non-expired member (R64). -/
def releaseMany : Nat → State → State
  | 0, s => s
  | n + 1, s => releaseMany n s.releaseLast

/-- Stages 4 and 8 while full thrust is active (R59). -/
def State.evaluateFull (s : State) (sc : Scenario) (required : Nat) : State :=
  let s := joinAll sc s (s.candidates sc)
  s.recordShortfall (decide (countedSum (nonExpired s.line.duty) < required))

/-- Stages 5 to 8 while full thrust is inactive (R60 to R65). -/
def State.evaluateSize (s : State) (sc : Scenario) (required redundancy : Nat) : State :=
  let present := (nonExpired s.line.duty).map (fun m => m.counted)
  let r := joinNeeded sc required s present.sum (s.candidates sc)
  let s := r.1
  let count := (nonExpired s.line.duty).length
  let k := if required ≤ present.sum then needLength required 0 present else count
  let size := dutySize k redundancy sc.trim (count + r.2.2.length)
  let s := if count < size then joinToSize sc size k redundancy s r.2.2 else releaseMany (count - size) s
  s.recordShortfall (decide (r.2.1 < required))

/-- The redundancy Nred of the image in use (R62). -/
def State.redundancy (s : State) : Nat :=
  match s.tunnel? with
  | some t => t.redundancy
  | none => 0

/-- The evaluation (R56): required thrust, sweep, recomputation, then the full-thrust case or the sizing, and the
record. Without a scenario there is nothing to evaluate. -/
def State.evaluate (s : State) : State :=
  match s.line.scenario with
  | none => s
  | some sc =>
    let required := s.requiredFor sc
    let s := ((s.modifyScenario (fun sc => { sc with required := required })).sweep).recompute sc
    if sc.fullThrust then s.evaluateFull sc required else s.evaluateSize sc required s.redundancy

/-! ### Losing a fan -/

/-- The fan supervisor's report that a fan has entered a holding state: a member is removed and the line evaluated at
once; for another fan the report changes nothing (R69). -/
def State.reportLoss (s : State) (i : Nat) : State := if s.isMember i then (s.removeMember i).evaluate else s

end Sys2Proof.Machine
end

