-- ==== Sys2Proof/Machine/FanMoves.lean ====
section
/-! DEFINITION. The fan supervisor's transitions: entering a holding state (R105, R110, R111, R113), leaving one
(R109), the automatic restart (R108), a failed or tripped fan (R105), and the feeder moves that act on fans (R125 to
R128). -/

namespace Sys2Proof.Machine

/-- The work of steps 1 to 3 of an entry to a holding state (R113): RUN off if it was on, the new state and fault; the
queue entry leaves its queue or the start slot is freed; FAN_FAULT for TRIPPED and FAILED. Entering FAILED discards
the stuck-running timer (R106). `fault` is the last fault an entry to TRIPPED or FAILED leaves. -/
def State.holdFan (s : State) (i : Nat) (dest : FanState) (fault : Option LastFault) : State :=
  let before := (s.fan i).state
  let allowance := s.feedbackAllowance
  let s := s.modifyFan i (fun f =>
    let g := f.stopRun allowance
    { g with
      state := dest
      lastFault := fault.getD g.lastFault
      stuckTimer := if dest = .failed then none else g.stuckTimer })
  let s := if before = .queued then s.onFeederOf i (fun f => f.remove i)
    else if before.isStarting then s.freeSlot i else s
  if dest = .tripped ∨ dest = .failed then s.raise .fanFault else s

/-- Whether the report of a member that a command loses waits: a free value, since the spec leaves it open (DESIGN CHOICE,
notes/assumptions 24). -/
def State.reportWaits (s : State) : Bool := Config.freeReportWaits s.freeIndex

/-- A free value has been used: the next one is another. -/
def State.nextFree (s : State) : State := { s with freeIndex := s.freeIndex + 1 }

/-- Step 4 of an entry to a holding state (R113): the entry of fan `i` is reported. The report of a member waits, or is
taken at once: the spec has both (DESIGN CHOICE, notes/assumptions 24). R57, R69 and R89 let a boundary or a request be
taken before the report; spec/95 puts MEMBER_LOSS inside the step that loses the fan. A report of no member changes
nothing at the line controller whenever it is taken (R69), and does not wait. -/
def State.sendReport (s : State) (i : Nat) (waits : Bool) : State :=
  if s.isMember i && waits then { s with line := { s.line with reports := s.line.reports ++ [i] } } else s.reportLoss i

/-- The line controller takes the oldest report that waits (R69). -/
def State.takeReport (s : State) : State :=
  match s.line.reports with
  | i :: rest => { s with line := { s.line with reports := rest } }.reportLoss i
  | [] => s

/-- An entry of fan `i` to TRIPPED, FAILED, ISOLATED or UNPOWERED in which a member may be lost, its report waiting or
not (R69, R113). -/
def State.loseFan (s : State) (i : Nat) (dest : FanState) (fault : Option LastFault) (waits : Bool) : State :=
  (s.holdFan i dest fault).sendReport i waits

/-- An entry to TRIPPED, FAILED, ISOLATED or UNPOWERED in a placing, at a LOCKOUT or at a load, its report taken at once
(R109, R113). The fan is then no member, unless the report of its earlier loss still waits, as spec/95 lists no member
loss within these steps: that the new report is not left waiting behind it is a DESIGN CHOICE (notes/assumptions 24). -/
def State.enterHolding (s : State) (i : Nat) (dest : FanState) (fault : Option LastFault) : State :=
  (s.holdFan i dest fault).reportLoss i

/-- A fault that TRIPPED may clear once: the fan enters TRIPPED, or FAILED if its restart_used is yes, with the same
last fault (R105). -/
def State.tripFan (s : State) (i : Nat) (fault : LastFault) (waits : Bool) : State :=
  s.loseFan i (if (s.fan i).restartUsed then .failed else .tripped) (some fault) waits

/-- A fan in IDLE goes on to QUEUED if it holds a run demand (R97, R104, R109). -/
def State.toIdle (s : State) (i : Nat) : State :=
  let s := s.modifyFan i (fun f => { f with state := .idle })
  match (s.fan i).demand with
  | .run d c => s.enterQueued i d c
  | .none => s

/-- The placing of a fan that leaves a holding state, or is placed afresh at a load (R109, R121): the first of
ISOLATED, UNPOWERED, TRIPPED (or FAILED), COASTING, IDLE that applies. -/
def State.placeFan (s : State) (i : Nat) : State :=
  if (s.fan i).iso || (s.fan i).lockout then s.enterHolding i .isolated none
  else if s.onDeadFeeder i then s.enterHolding i .unpowered none
  else if (s.fan i).trip then s.tripFan i .trip false
  else if s.coastExpired i then s.toIdle i
  else s.modifyFan i (fun f => { f with state := .coasting })

/-- A fan leaving FAILED with FB active and RUN off starts the stuck-running timer (R106). -/
def State.resumeStuckTimer (s : State) (i : Nat) : State :=
  let allowance := s.feedbackAllowance
  s.modifyFan i (fun f =>
    if f.state = .failed ∧ f.fb = true ∧ f.run = false then { f with stuckTimer := some allowance } else f)

/-- The automatic restart (R108): in FIRE, a TRIPPED fan with restart_used no, TRIP inactive and its coast timer
expired has restart_used set and is placed by R109. -/
def State.examineRestart (s : State) (i : Nat) : State :=
  if s.line.mode = .fire ∧ (s.fan i).state = .tripped ∧ (s.fan i).restartUsed = false ∧ (s.fan i).trip = false
      ∧ s.coastExpired i = true then
    (s.modifyFan i (fun f => { f with restartUsed := true })).placeFan i
  else s

/-- A fan in UNPOWERED leaves it when its feeder is READY and its coast timer has expired (R112). -/
def State.examinePower (s : State) (i : Nat) : State :=
  if (s.fan i).state = .unpowered ∧ s.onReadyFeeder i = true ∧ s.coastExpired i = true then s.placeFan i else s

/-- The fans of feeder `n`, in fan number order. -/
def State.fansOf (s : State) (n : Nat) : List Nat :=
  (List.range s.fanCount).filter (fun i => decide (s.feederOf i = some n))

/-- A fan state that a DEAD feeder takes to UNPOWERED: all but FAILED, ISOLATED and UNPOWERED itself (R111). -/
def FanState.losesPower : FanState → Bool
  | .idle | .queued | .starting _ _ | .running _ | .coasting | .tripped => true
  | .failed | .isolated | .unpowered => false

/-- A fan of a feeder that has become DEAD enters UNPOWERED, unless it is FAILED, ISOLATED or already UNPOWERED
(R111). -/
def State.losePower (s : State) (i : Nat) (waits : Bool) : State :=
  if (s.fan i).state.losesPower then s.loseFan i .unpowered none waits else s

/-- Fans of a DEAD feeder are taken one by one, in the order of the list, each with its own report acted on before the
next is taken (R111): only the report of the last that enters UNPOWERED may wait. -/
def State.losePowers (waits : Bool) : State → List Nat → State
  | s, [] => s
  | s, i :: is => (s.losePower i (!is.any (fun j => (s.fan j).state.losesPower) && waits)).losePowers waits is

/-- The arbiter reports feeder `n` DEAD: its fans are taken in fan number order (R111, R127). -/
def State.reportDead (s : State) (n : Nat) (waits : Bool) : State := s.losePowers waits (s.fansOf n)

/-- Feeder `n` moves to a state, with its settle timer at the full settle time in SETTLING and discarded elsewhere; the
two level conditions are taken afresh (R125, R126, R136). -/
def State.moveFeeder (s : State) (n : Nat) (dest : FeederState) : State :=
  let timer := if dest = .settling then some (s.settleTime n) else none
  (s.modifyFeeder n (fun f => { f with state := dest, settleTimer := timer })).refreshFeederLevels

/-- Feeder `n` enters DEAD: the settle timer is discarded and the loss is reported to the fan supervisor in the same
operation (R127). -/
def State.feederDies (s : State) (n : Nat) (waits : Bool) : State := (s.moveFeeder n .dead).reportDead n waits

/-- Feeder `n` enters READY: the free slots are filled from the queue, then each UNPOWERED fan of the feeder whose coast
timer has expired is placed, in fan number order (R128). -/
def State.feederReady (s : State) (n : Nat) : State :=
  let s := (s.moveFeeder n .ready).considerGrant n
  forEach State.examinePower s (s.fansOf n)

end Sys2Proof.Machine
end

