-- ==== Sys2Proof/Machine/Image.lean ====
section
/-! DEFINITION. The line image: its layout, the loader's three passes (R179, R180), and handing a good image to the
blocks (R182, R121, R138). -/

namespace Sys2Proof.Machine

/-! ### The layout: each section's fields with their size in bytes and their range (R179, R180) -/

/-- A field of a section: its size in bytes and the smallest and largest value its range admits. -/
abbrev FieldSpec := Nat × Nat × Nat

/-- The tunnel section, in image order: L, A10, Kb, Kt, density, vj, Pw, sd, Nred, B, W, M, debounce, feedback
allowance, link timeout, link fallback. -/
def tunnelFields : List FieldSpec :=
  [(2, 500, 30000), (2, 200, 1500), (2, 0, 10000), (2, 0, 1000), (2, 1000, 1300), (2, 200, 450), (1, 0, 200),
   (1, 50, 100), (1, 0, 4), (1, 10, 100), (1, 1, 10), (1, 2, 30), (2, 50, 1000), (1, 1, 10), (1, 5, 120), (1, 0, 1)]

/-- A class table entry: target, Pf, r_up, r_down. -/
def classFields : List FieldSpec := [(2, 100, 600), (2, 0, 500), (2, 0, 500), (2, 0, 2000)]

/-- A feeder record: start slots, settle time. -/
def feederFields : List FieldSpec := [(1, 1, 4), (1, 1, 60)]

/-- A fan record: chainage, feeder, Trated, inst, primary direction, rev, start time, coast time, heat rating. -/
def fanFields : List FieldSpec :=
  [(2, 0, 30000), (1, 0, 3), (2, 100, 4000), (1, 50, 100), (1, 0, 1), (1, 50, 100), (1, 2, 60), (2, 10, 600),
   (1, 15, 240)]

/-- A channel record: chainage, scale k, vmax. -/
def channelFields : List FieldSpec := [(2, 0, 30000), (2, 10, 1000), (2, 500, 3000)]

/-- The head of a plan: direction, lo, hi, open flag. -/
def planFields : List FieldSpec := [(1, 0, 1), (2, 0, 30000), (2, 0, 30000), (1, 0, 1)]

/-- A descriptor: first fan, count, step, last flag. -/
def descriptorFields : List FieldSpec := [(1, 0, 63), (1, 0, 64), (1, 0, 1), (1, 0, 1)]

/-! ### Pass 1: reading -/

/-- Read one field of `size` bytes; a byte the memory does not answer is NO_RESPONSE (R180). -/
def readField (size : Nat) (bytes : List Byte) : Except LoadFault (Nat × List Byte) :=
  if bytes.length < size then .error .noResponse else .ok (beNat (bytes.take size), bytes.drop size)

/-- Read the fields of one record, in order. -/
def readRecord : List FieldSpec → List Byte → Except LoadFault (List Nat × List Byte)
  | [], bytes => .ok ([], bytes)
  | f :: fs, bytes =>
    match readField f.1 bytes with
    | .error e => .error e
    | .ok (v, rest) =>
      match readRecord fs rest with
      | .error e => .error e
      | .ok (vs, rest) => .ok (v :: vs, rest)

/-- Read `n` records of one kind. -/
def readRecords (spec : List FieldSpec) : Nat → List Byte → Except LoadFault (List (List Nat) × List Byte)
  | 0, bytes => .ok ([], bytes)
  | n + 1, bytes =>
    match readRecord spec bytes with
    | .error e => .error e
    | .ok (r, rest) =>
      match readRecords spec n rest with
      | .error e => .error e
      | .ok (rs, rest) => .ok (r :: rs, rest)

/-- Read the descriptors of a plan, at most `n` more: the plan ends at the first whose last flag is 1. A last-flag byte
other than 0 or 1 is BAD_FORMAT, and so is an eighth descriptor that does not carry the flag (R180). -/
def readDescriptors : Nat → List Byte → Except LoadFault (List (List Nat) × List Byte)
  | 0, _ => .error .badFormat
  | n + 1, bytes =>
    match readRecord descriptorFields bytes with
    | .error e => .error e
    | .ok (r, rest) =>
      match r[3]? with
      | some 1 => .ok ([r], rest)
      | some 0 =>
        match readDescriptors n rest with
        | .error e => .error e
        | .ok (rs, rest) => .ok (r :: rs, rest)
      | _ => .error .badFormat

/-- Read `n` plans, each with its descriptors. -/
def readPlans : Nat → List Byte → Except LoadFault (List (List Nat × List (List Nat)) × List Byte)
  | 0, bytes => .ok ([], bytes)
  | n + 1, bytes =>
    match readRecord planFields bytes with
    | .error e => .error e
    | .ok (r, rest) =>
      match readDescriptors 8 rest with
      | .error e => .error e
      | .ok (ds, rest) =>
        match readPlans n rest with
        | .error e => .error e
        | .ok (ps, rest) => .ok ((r, ds) :: ps, rest)

/-- The fields of an image as read, before any is judged. -/
structure RawImage where
  identifier : Nat
  check : Nat
  tunnel : List Nat
  classes : List (List Nat)
  feeders : List (List Nat)
  fans : List (List Nat)
  channels : List (List Nat)
  plans : List (List Nat × List (List Nat))
deriving DecidableEq, Repr

/-- The counts of the header lie in their ranges: fans 1..64, channels 0..16, feeders 1..4, plans 0..32 (R180). -/
def countsOk (fans channels feeders plans : Nat) : Bool :=
  decide (1 ≤ fans) && decide (fans ≤ 64) && decide (channels ≤ 16) && decide (1 ≤ feeders) && decide (feeders ≤ 4)
    && decide (plans ≤ 32)

/-- Read the sections after the header, in order, and the check (R179). The answer carries how many bytes stand before
the check. -/
def readSections (identifier fans channels feeders plans total : Nat) (bytes : List Byte) :
    Except LoadFault (RawImage × Nat) := do
  let (tunnel, bytes) ← readRecord tunnelFields bytes
  let (classes, bytes) ← readRecords classFields 4 bytes
  let (feederRecords, bytes) ← readRecords feederFields feeders bytes
  let (fanRecords, bytes) ← readRecords fanFields fans bytes
  let (channelRecords, bytes) ← readRecords channelFields channels bytes
  let (planRecords, bytes) ← readPlans plans bytes
  let (check, _) ← readField 2 bytes
  return ({ identifier := identifier, check := check, tunnel := tunnel, classes := classes, feeders := feederRecords,
            fans := fanRecords, channels := channelRecords, plans := planRecords }, total - bytes.length)

/-- Pass 1 (R180): the header and its checks, then the sections. -/
def readImage (memory : List Byte) : Except LoadFault (RawImage × Nat) := do
  let (format, bytes) ← readField 2 memory
  let (identifier, bytes) ← readField 4 bytes
  let (fans, bytes) ← readField 1 bytes
  let (channels, bytes) ← readField 1 bytes
  let (feeders, bytes) ← readField 1 bytes
  let (plans, bytes) ← readField 1 bytes
  if format ≠ Config.imageFormat ∨ countsOk fans channels feeders plans = false then
    .error .badFormat
  else
    readSections identifier fans channels feeders plans memory.length bytes

/-! ### Pass 3: ranges, then references -/

/-- Every field of a record lies in its range (R180). -/
def inRange (spec : List FieldSpec) (vals : List Nat) : Bool :=
  (spec.zip vals).all (fun p => decide (p.1.2.1 ≤ p.2) && decide (p.2 ≤ p.1.2.2))

/-- Every field of the image lies in its range (R180). -/
def RawImage.rangesOk (r : RawImage) : Bool :=
  inRange tunnelFields r.tunnel && r.classes.all (inRange classFields) && r.feeders.all (inRange feederFields)
    && r.fans.all (inRange fanFields) && r.channels.all (inRange channelFields)
    && r.plans.all (fun p => inRange planFields p.1 && p.2.all (inRange descriptorFields))

/-- Field `n` of a record. -/
def fieldAt (vals : List Nat) (n : Nat) : Nat := vals.getD n 0

/-- Every reference of the image holds: chainages up to L, fan feeders below the feeder count, first fans below the fan
count (R180). -/
def RawImage.referencesOk (r : RawImage) : Bool :=
  r.fans.all (fun f => decide (fieldAt f 0 ≤ fieldAt r.tunnel 0) && decide (fieldAt f 1 < r.feeders.length))
    && r.channels.all (fun c => decide (fieldAt c 0 ≤ fieldAt r.tunnel 0))
    && r.plans.all (fun p => p.2.all (fun d => decide (fieldAt d 0 < r.fans.length)))

/-! ### The records -/

/-- The direction of a direction field that has passed its range check. -/
def directionField (vals : List Nat) (n : Nat) : Direction := if fieldAt vals n = 1 then .reverse else .forward

/-- The tunnel figures. -/
def tunnelOf (v : List Nat) : Tunnel :=
  { length := fieldAt v 0, crossSection := fieldAt v 1, baseLoss := fieldAt v 2, trainLoss := fieldAt v 3,
    density := fieldAt v 4, jetVelocity := fieldAt v 5, windAllowance := fieldAt v 6, smokeDerating := fieldAt v 7,
    redundancy := fieldAt v 8, trimBand := fieldAt v 9, windowSeconds := fieldAt v 10,
    windowsPerPeriod := fieldAt v 11, debounceMs := fieldAt v 12, feedbackAllowance := fieldAt v 13,
    linkTimeout := fieldAt v 14, fallback := if fieldAt v 15 = 1 then .stopAll else .hold }

/-- A class table entry. -/
def classOf (v : List Nat) : FireClass :=
  { target := fieldAt v 0, firePressure := fieldAt v 1, radiusUp := fieldAt v 2, radiusDown := fieldAt v 3 }

/-- A feeder record. -/
def feederStaticOf (v : List Nat) : FeederStatic := { slots := fieldAt v 0, settleTime := fieldAt v 1 }

/-- A fan record. -/
def fanStaticOf (v : List Nat) : FanStatic :=
  { chainage := fieldAt v 0, feeder := fieldAt v 1, ratedThrust := fieldAt v 2, installation := fieldAt v 3,
    primary := directionField v 4, reverseRatio := fieldAt v 5, startTime := fieldAt v 6, coastTime := fieldAt v 7,
    heatRating := fieldAt v 8 }

/-- A channel record. -/
def channelStaticOf (v : List Nat) : ChannelStatic :=
  { chainage := fieldAt v 0, scale := fieldAt v 1, vmax := fieldAt v 2 }

/-- A descriptor: step code 0 is +1 and 1 is −1 (R179). -/
def descriptorOf (v : List Nat) : Descriptor :=
  { first := fieldAt v 0, count := fieldAt v 1, down := decide (fieldAt v 2 = 1) }

/-- A plan: open flag 1 is OPEN (DEDUCED, notes/assumptions 17). -/
def planOf (p : List Nat × List (List Nat)) : Plan :=
  { direction := directionField p.1 0, lo := fieldAt p.1 1, hi := fieldAt p.1 2, isOpen := decide (fieldAt p.1 3 = 1),
    descriptors := p.2.map descriptorOf }

/-- The records of an image that has passed every check. -/
def RawImage.build (r : RawImage) : LineImage :=
  { identifier := BitVec.ofNat 32 r.identifier, crc := BitVec.ofNat 16 r.check, tunnel := tunnelOf r.tunnel,
    classes := r.classes.map classOf, feeders := r.feeders.map feederStaticOf, fans := r.fans.map fanStaticOf,
    channels := r.channels.map channelStaticOf, plans := r.plans.map planOf }

/-- The load's result from what the configuration memory answers: the three passes in order, the first failure deciding
the cause (R180). -/
def loadImage (memory : List Byte) : Except LoadFault LineImage :=
  match readImage memory with
  | .error e => .error e
  | .ok (raw, before) =>
    if BitVec.ofNat 16 raw.check ≠ crc16 (memory.take before) then .error .badCrc
    else if raw.rangesOk = false then .error .range
    else if raw.referencesOk = false then .error .reference
    else .ok raw.build

/-! ### Handing a good image to the blocks (R182) -/

/-- A feeder's record at a good load, from its debounced inputs as they stand (R138). -/
def Feeder.atLoad (inp : FeederInputs) (settleTime : Nat) : Feeder :=
  if inp.avail = false then
    { state := .dead, settleTimer := none, startingCount := 0, urgent := [], routine := [] }
  else if inp.vlow then
    { state := .hold, settleTimer := none, startingCount := 0, urgent := [], routine := [] }
  else
    { state := .settling, settleTimer := some settleTime, startingCount := 0, urgent := [], routine := [] }

/-- The fan records under a new fan count: those at or above it are removed, and those that had none before are
installed as after a full reset (R121). -/
def resizeFans (fans : List Fan) (n : Nat) : List Fan :=
  fans.take n ++ List.replicate (n - fans.length) Fan.afterReset

/-- A fan that a good load places afresh: one in IDLE, COASTING, ISOLATED or UNPOWERED (R121). -/
def FanState.placedAtLoad : FanState → Bool
  | .idle | .coasting | .isolated | .unpowered => true
  | .queued | .starting _ _ | .running _ | .tripped | .failed => false

/-- A fan placed afresh at a good load (R121). -/
def State.placeAtLoad (s : State) (i : Nat) : State := if (s.fan i).state.placedAtLoad then s.placeFan i else s

/-- The installed feeders that are DEAD. -/
def State.deadFeeders (s : State) : List Nat :=
  (List.range s.feederCount).filter (fun n => decide (s.feederState n = some .dead))

/-- The feeder arbiter and the fan supervisor take their records, the arbiter then reports each feeder that the load
made DEAD (R121, R138, R182). -/
def State.takeFieldRecords (s : State) (m : LineImage) : State :=
  let feeders := m.feeders.zipIdx.map (fun p => Feeder.atLoad (s.inputs p.2) p.1.settleTime)
  let s := { s with image := some m, feeders := feeders, fans := resizeFans s.fans m.fans.length }
  let s := forEach State.placeAtLoad s.refreshFeederLevels (List.range s.fanCount)
  forEach (fun s n => s.reportDead n false) s s.deadFeeders

/-- The airflow unit takes its channel records and begins every channel's first window from the line levels at the
entry to NORMAL (R144, R145, R157). -/
def State.takeChannels (s : State) (m : LineImage) (dir health : BitVec 16) : State :=
  let channels := m.channels.zipIdx.map (fun p =>
    Channel.cleared.beginWindow (directionOfLevel (dir.getLsbD p.2)) (health.getLsbD p.2))
  { s with air := { channels := channels, vm := none, windowTimer := some 0 } }

/-- The line enters NORMAL from LOADING: no scenario, an empty duty set, and the watchdog, the window timer and the
control-period counter start (R2, R75, R169, R182). -/
def State.enterNormal (s : State) : State :=
  { s with
    line := { mode := .normal, scenario := none, duty := [], counting := true, windowCount := 0, boundaryDue := none,
              overtaken := false, reports := [] }
    link := { s.link with watchdog := .counting 0 }
    loader := { s.loader with load := .idle, fault := .none, loadError := false } }

/-- A good load (R182). -/
def State.goodLoad (s : State) (m : LineImage) (dir health : BitVec 16) : State :=
  ((s.takeFieldRecords m).takeChannels m dir health).enterNormal

/-- A failed load: the cause is stored, LOAD_ERROR is turned on and the line enters CONFIG_FAULT (R2, R182). -/
def State.failedLoad (s : State) (cause : LoadFault) : State :=
  { s.setMode .configFault with loader := { s.loader with load := .idle, fault := cause, loadError := true } }

/-- The load starts: READING, no fault cause, LOAD_ERROR off, the line in LOADING (R181). -/
def State.startLoad (s : State) : State :=
  { s.setMode .loading with loader := { s.loader with load := .reading, fault := .none, loadError := false } }

/-! ### Reload (R122, R139, R158, R172, R183) -/

/-- The conditions of a reload in NORMAL: no fan has RUN on, no coast timer runs, no fan is locked out (R183). -/
def State.reloadReady (s : State) : Bool :=
  (List.range s.fanCount).all (fun i => !(s.fan i).run && s.coastExpired i && !(s.fan i).lockout)

/-- The fault history of a fan is cleared (R122). -/
def Fan.clearHistory (f : Fan) : Fan :=
  { f with lockout := false, restartUsed := false, expired := false, exposure := 0, lastFault := .none }

/-- A fan in a holding state leaves it and is placed by R109 (R122); under an active TRIP it enters TRIPPED again
(DEDUCED, notes/assumptions 11). -/
def State.placeAtReload (s : State) (i : Nat) : State :=
  if (s.fan i).state.isHolding then (s.resumeStuckTimer i).placeFan i else s

/-- The airflow unit at an accepted reload: the window timer stops, rings, counts and flags are cleared, vm becomes
unavailable and AIRFLOW_FAULT false (R153, R154, R158). -/
def State.clearAirflow (s : State) : State :=
  let cleared := s.air.channels.map (fun _ => Channel.cleared)
  { s with air := { channels := cleared, vm := none, windowTimer := none } }.refreshAirflowFault

/-- An accepted reload: every demand NONE, the fault history cleared, the faulted fans placed, the rings emptied, the
window timer, the counter and the watchdog stopped, and the load started (R3, R75, R122, R139, R158, R172, R183). -/
def State.acceptReload (s : State) : State :=
  let fans := List.range s.fanCount
  let s := s.stopEveryFan
  let s := forEach (fun s i => s.modifyFan i Fan.clearHistory) s fans
  let s := (forEach State.placeAtReload s fans).clearAirflow
  { s with
    line := { s.line with counting := false, windowCount := 0, boundaryDue := none, overtaken := false }
    link := { s.link with watchdog := .stopped } }.startLoad

end Sys2Proof.Machine
end

