-- ==== Sys2Proof/Machine/Records.lean ====
section
/-! DEFINITION. The records the module sends, byte by byte (spec/09 section 9.6), and the frame around them (R159,
R161). -/

namespace Sys2Proof.Machine

/-! ### Codes -/

/-- Direction code (spec/09 section 9.6). -/
def Direction.code : Direction → Nat
  | .forward => 0
  | .reverse => 1

/-- Line mode code. -/
def LineMode.code : LineMode → Nat
  | .loading => 0
  | .configFault => 1
  | .normal => 2
  | .fire => 3

/-- Load fault cause code. -/
def LoadFault.code : LoadFault → Nat
  | .none => 0
  | .noResponse => 1
  | .badFormat => 2
  | .badCrc => 3
  | .range => 4
  | .reference => 5

/-- Fan state code. -/
def FanState.code : FanState → Nat
  | .idle => 0
  | .queued => 1
  | .starting _ _ => 2
  | .running _ => 3
  | .coasting => 4
  | .tripped => 5
  | .failed => 6
  | .isolated => 7
  | .unpowered => 8

/-- Class code. -/
def DemandClass.code : DemandClass → Nat
  | .routine => 0
  | .urgent => 1

/-- Demand code of the FAN reply: 0 NONE, 1 RUN FORWARD, 2 RUN REVERSE. -/
def Demand.code : Demand → Nat
  | .none => 0
  | .run .forward _ => 1
  | .run .reverse _ => 2

/-- Class code of the FAN reply, 0 when the demand is NONE. -/
def Demand.classCode : Demand → Nat
  | .none => 0
  | .run _ c => c.code

/-- Start phase code: 0 RAMP, 1 CONFIRM. -/
def StartPhase.code : StartPhase → Nat
  | .ramp _ => 0
  | .confirm _ => 1

/-- The start phase, present in STARTING (R92). -/
def FanState.phase? : FanState → Option StartPhase
  | .starting _ p => some p
  | _ => none

/-- Last fault code. -/
def LastFault.code : LastFault → Nat
  | .none => 0
  | .trip => 1
  | .failToStart => 2
  | .uncommandedStop => 3
  | .stuckRunning => 4

/-- Join reason code. -/
def JoinReason.code : JoinReason → Nat
  | .initial => 0
  | .need => 1
  | .redundant => 2
  | .trim => 3
  | .full => 4

/-- Feeder state code. -/
def FeederState.code : FeederState → Nat
  | .dead => 0
  | .hold => 1
  | .settling => 2
  | .ready => 3

/-- Sample quality code. -/
def Quality.code : Quality → Nat
  | .good => 0
  | .overrange => 1
  | .ambiguous => 2
  | .unhealthy => 3

/-- Side code of the AIRFLOW reply: 0 none outside FIRE, 1 cold, 2 hot, 3 neither. -/
def sideCode : Option Side → Nat
  | none => 0
  | some .cold => 1
  | some .hot => 2
  | some .neither => 3

/-- Refusal reason code (R164). -/
def RefuseReason.code : RefuseReason → Nat
  | .unknownType => 1
  | .badLength => 2
  | .range => 3
  | .mode => 4
  | .state => 5
  | .noImage => 6

/-! ### Record layouts -/

/-- Reply type codes. -/
def Reply.typeCode : Reply → Nat
  | .ident _ => 0x81
  | .status _ => 0x82
  | .fan _ => 0x83
  | .fanTable _ => 0x84
  | .duty _ => 0x85
  | .queue _ => 0x86
  | .airflow _ _ => 0x87
  | .events _ => 0x88
  | .accept _ => 0x89
  | .refuse _ _ => 0x8A
  | .attention => 0x8B

/-- Pending full thrust in STATUS: 0 absent, 1 off, 2 on. -/
def pendingFullCode : Option Bool → Nat
  | none => 0
  | some false => 1
  | some true => 2

/-- The scenario fields of STATUS. -/
def ScenarioReport.bytes (r : ScenarioReport) : List Byte :=
  byte2 r.chainage ++ byte1 r.direction.code ++ byte1 r.fireClass ++ byte2 r.trainLength ++ byte2 r.target
    ++ byteOption byte2 r.pendingTarget ++ byteFlag r.fullThrust ++ byte1 (pendingFullCode r.pendingFullThrust)
    ++ byte2 r.windowLow ++ byte2 r.windowHigh ++ byte1 (r.plan.getD 0xFF) ++ byte1 r.lowCount ++ byte1 r.highCount
    ++ byte1 r.preference.length ++ r.preference.flatMap byte1

/-- The payload of STATUS. -/
def StatusReply.bytes (r : StatusReply) : List Byte :=
  byte1 r.mode.code ++ byte1 r.loadFault.code ++ byteFlag r.eventsPending ++ byte2 r.goodFrames ++ byte2 r.crcErrors
    ++ byte2 r.discards ++ byte1 r.feeders.length ++ r.feeders.flatMap (fun f => byte1 f.code)
    ++ byteOption byte2s r.vm ++ byte4 r.required ++ byte1 r.dutySize ++ byte4 r.countedSum ++ byte4 r.runningSum
    ++ byteFlag r.shortfall ++ byte1s r.trim ++ byteOption ScenarioReport.bytes r.scenario

/-- The payload of FAN. -/
def FanReply.bytes (r : FanReply) : List Byte :=
  byte1 r.fan ++ byte2 r.static.chainage ++ byte1 r.static.feeder ++ byte2 r.static.ratedThrust
    ++ byte1 r.static.installation ++ byte1 r.static.primary.code ++ byte1 r.static.reverseRatio
    ++ byte1 r.static.startTime ++ byte2 r.static.coastTime ++ byte1 r.static.heatRating ++ byte1 r.state.code
    ++ byte1 r.demand.code ++ byte1 r.demand.classCode ++ byteOption (fun d => byte1 d.code) r.state.dir?
    ++ byteOption (fun p => byte1 p.code) r.state.phase? ++ byte2 r.coastRemaining ++ byteFlag r.restartUsed
    ++ byteFlag r.lockout ++ byte1 r.lastFault.code ++ byte2 r.exposure ++ byteFlag r.expired ++ byteFlag r.fb
    ++ byteFlag r.trip ++ byteFlag r.iso ++ byteFlag r.hotSide ++ byteFlag r.excluded
    ++ byteOption byte1 r.dutyPosition

/-- The payload of DUTY, the members numbered by their join positions (R52). -/
def dutyBytes (members : List Member) : List Byte :=
  byte1 members.length ++ members.zipIdx.flatMap (fun p =>
    byte1 p.1.fan ++ byte1 p.1.reason.code ++ byte1 (p.2 + 1) ++ byte2 p.1.counted ++ byteFlag p.1.expired)

/-- The payload of QUEUE. -/
def QueueReply.bytes (r : QueueReply) : List Byte :=
  byte1 r.feeder ++ byte1 r.state.code ++ byteOption byte1 r.settleRemaining ++ byte1 r.slots ++ byte1 r.startingCount
    ++ byteFlag r.avail ++ byteFlag r.vlow ++ byte1 r.entries.length
    ++ r.entries.flatMap (fun e => byte1 e.fan ++ byte1 e.cls.code ++ byte1 e.dir.code)

/-- One channel of AIRFLOW. -/
def ChannelReport.bytes (r : ChannelReport) : List Byte :=
  byte1 r.samples ++ byteOption (fun (x : Sample) => byte2s x.velocity ++ byte1 x.quality.code) r.newest
    ++ byteFlag r.valid ++ byteOption byte2s r.velocity ++ byte1 (sideCode r.side)

/-- The payload of a record (spec/09 section 9.6). -/
def Reply.payload : Reply → List Byte
  | .ident image =>
    byte2 Config.vendorCode ++ byte2 Config.partCode ++ byteOption (fun n => byte4 n) (image.map (fun p => p.1.toNat))
      ++ byteOption byte2 (image.map (fun p => p.2.toNat))
  | .status r => r.bytes
  | .fan r => r.bytes
  | .fanTable states => byte1 states.length ++ states.flatMap (fun f => byte1 f.code)
  | .duty members => dutyBytes members
  | .queue r => r.bytes
  | .airflow vm channels => byteOption byte2s vm ++ byte1 channels.length ++ channels.flatMap ChannelReport.bytes
  | .events set => byte2 set.toNat
  | .accept type => [type]
  | .refuse type reason => type :: byte1 reason.code
  | .attention => []

/-- The bytes that stand between the start byte and the check: LEN, type, payload (R159). -/
def frameBody (type : Byte) (payload : List Byte) : List Byte := byte2 (payload.length + 1) ++ type :: payload

/-- A whole frame: start byte, body, check (R159, R161). -/
def frameBytes (type : Byte) (payload : List Byte) : List Byte :=
  0xA5#8 :: (frameBody type payload ++ byte2 (crc16 (frameBody type payload)).toNat)

/-- The frame a record is sent in. -/
def Reply.frame (r : Reply) : List Byte := frameBytes (BitVec.ofNat 8 r.typeCode) r.payload

end Sys2Proof.Machine
end

