-- ==== Sys2Proof/Machine/Scenarios.lean ====
section
/-! DEFINITION. What ACTIVATE_FIRE and STAND_DOWN set in motion (Chapter 1), and the boundary in FIRE (Chapter 5). -/

namespace Sys2Proof.Machine

/-! ### The scenario record -/

/-- The active target of an ACTIVATE_FIRE: its own, clamped to 100..600, or the class target (R7). -/
def targetOf (k : FireClass) (req : FireRequest) : Nat :=
  match req.target with
  | some v => clampNat 100 600 v
  | none => k.target

/-- The figures of a taken ACTIVATE_FIRE put into a scenario record: the stored values (R7, R8) and the exclusion window
(R9). -/
def Scenario.withFire (sc : Scenario) (length : Nat) (k : FireClass) (req : FireRequest) (d : Direction) : Scenario :=
  let w := exclusionWindow length req.chainage d k.radiusUp k.radiusDown
  { sc with chainage := req.chainage, direction := d, fireClass := req.fireClass, trainLength := min 1000 req.trainLength,
            target := targetOf k req, windowLow := w.1, windowHigh := w.2 }

/-- A scenario record at its creation, before the figures of the request (R5). -/
def Scenario.blank : Scenario :=
  { chainage := 0, direction := .forward, fireClass := 0, trainLength := 0, target := 100, pendingTarget := none,
    fullThrust := false, pendingFullThrust := none, windowLow := 0, windowHigh := 0, plan := none, preference := [],
    required := 0, trim := 0, lowCount := 0, highCount := 0, membershipChanged := false, shortfall := false }

/-- t, the low count and the high count become 0 and the pending target is cleared (R14, step 4). -/
def Scenario.resetTrim (sc : Scenario) : Scenario :=
  { sc with trim := 0, lowCount := 0, highCount := 0, pendingTarget := none }

/-! ### Activation (R11 to R13) -/

/-- A fan whose entry is removed returns from QUEUED to IDLE with demand NONE (R11, R132). -/
def Fan.unqueue (f : Fan) : Fan := if f.state = .queued then { f with state := .idle, demand := .none } else f

/-- The ROUTINE group of feeder `n` is emptied: each fan returns to IDLE with demand NONE (R132). -/
def State.purgeFeeder (s : State) (n : Nat) : State :=
  match s.feeders[n]? with
  | none => s
  | some f =>
    (forEach (fun s i => s.modifyFan i Fan.unqueue) s (f.routine.map (fun e => e.fan))).modifyFeeder n
      (fun f => { f with routine := [] })

/-- The purge of the ROUTINE groups at entry to FIRE, feeder 0 first (R11, R114, R132). -/
def State.purgeRoutine (s : State) : State := forEach State.purgeFeeder s (List.range s.feederCount)

/-- The fan joins as INITIAL: on the list, not excluded, STARTING or RUNNING in d (R13, R66). -/
def State.qualifiesInitial (s : State) (sc : Scenario) (i : Nat) : Bool :=
  sc.preference.contains i && decide (i < s.fanCount) && !s.fanExcluded sc i
    && decide ((s.fan i).state.dir? = some sc.direction)

/-- Every fan that does not join as INITIAL has its demand set NONE (R12). -/
def State.stopUnwanted (s : State) (sc : Scenario) : State :=
  forEach (fun s i => if s.qualifiesInitial sc i then s else s.writeDemand i .none) s (List.range s.fanCount)

/-- The INITIAL joins, in preference-list order, each with a counted thrust of 0 until the recomputation (R13, R66). -/
def State.joinInitial (s : State) (sc : Scenario) : State :=
  forEach (fun s i => if s.qualifiesInitial sc i then s.joinMember sc.direction i .initial 0 else s) s sc.preference

/-- Apply an operation that reads the scenario record, where one is present. -/
def State.withScenario (s : State) (f : State → Scenario → State) : State :=
  match s.line.scenario with
  | some sc => f s sc
  | none => s

/-- A new scenario record stands and the line is in FIRE; vm is formed at once under it (R5, R11, R153). -/
def State.createScenario (s : State) (length : Nat) (k : FireClass) (req : FireRequest) (d : Direction) : State :=
  { s with line := { s.line with
      mode := .fire, scenario := some (Scenario.blank.withFire length k req d), duty := [] } }.publishVm

/-- An activation from NORMAL (R11 to R13, R114): the record, the purge, the list, the stopping of unwanted fans, the
automatic restarts, the INITIAL joins, the evaluation, FIRE_MODE. -/
def State.activate (s : State) (length : Nat) (k : FireClass) (req : FireRequest) (d : Direction) : State :=
  let s := ((s.createScenario length k req d).purgeRoutine).resolvePlan
  let s := s.withScenario State.stopUnwanted
  let s := forEach State.examineRestart s (List.range s.fanCount)
  ((s.withScenario State.joinInitial).evaluate).raise .fireMode

/-! ### Update and redirection (R14, R15) -/

/-- Steps 1 and 2 of an update: the figures are replaced, the window recomputed, vm formed at once, and the list
resolved afresh (R14, R153). -/
def State.replaceFire (s : State) (length : Nat) (k : FireClass) (req : FireRequest) (d : Direction) : State :=
  ((s.modifyScenario (fun sc => sc.withFire length k req d)).publishVm).resolvePlan

/-- Step 3 of an update: every member that is excluded or off the list leaves (R14, R68). That they leave in join order,
which R67 says of a redirection only, is DEDUCED (notes/assumptions 10). -/
def State.dropUnlisted (s : State) (sc : Scenario) : State :=
  forEach State.removeMember s
    ((s.line.duty.filter (fun m => s.fanExcluded sc m.fan || !sc.preference.contains m.fan)).map (fun m => m.fan))

/-- An update: ACTIVATE_FIRE in FIRE with the active direction (R14). -/
def State.update (s : State) (length : Nat) (k : FireClass) (req : FireRequest) (d : Direction) : State :=
  let s := (s.replaceFire length k req d).withScenario State.dropUnlisted
  (s.modifyScenario Scenario.resetTrim).evaluate

/-- A redirection: ACTIVATE_FIRE in FIRE with the other direction. The duty set is emptied in join order, then built as
at activation (R15, R67). -/
def State.redirect (s : State) (length : Nat) (k : FireClass) (req : FireRequest) (d : Direction) : State :=
  let s := s.replaceFire length k req d
  let s := forEach State.removeMember s (s.line.duty.map (fun m => m.fan))
  ((s.modifyScenario Scenario.resetTrim).withScenario State.joinInitial).evaluate

/-! ### Standing down (R17, R18) -/

/-- STAND_DOWN taken in FIRE, in the order of R17; the control-period counter restarts from zero and vm is formed in the
NORMAL sense (R18, R75, R153). A boundary still due is not taken any more: its window end is left to be counted from
zero (R89). A loss report still waiting would find no duty set and is dropped (R18, R69; notes/assumptions 24). -/
def State.endFire (s : State) : State :=
  let s := s.stopEveryFan
  let s := if s.line.duty.isEmpty then s else s.raise .dutyChange
  let s := forEach (fun s i => s.modifyFan i (fun f => { f with restartUsed := false })) s (List.range s.fanCount)
  let s := { s with line := { s.line with
    mode := .normal, scenario := none, duty := [], windowCount := 0, boundaryDue := none,
    overtaken := s.line.overtaken || s.line.boundaryDue.isSome, reports := [] } }
  ((s.raise .fireMode).refreshShortfall).publishVm

/-! ### The boundary in FIRE (R77) -/

/-- The control period P = M × W of the image in use, in seconds (spec/05 section 5.1). -/
def State.controlPeriod (s : State) : Nat :=
  match s.tunnel? with
  | some t => t.windowsPerPeriod * t.windowSeconds
  | none => 0

/-- The heat rating of fan `i` in seconds (R72). -/
def State.heatLimit (s : State) (i : Nat) : Nat :=
  match s.fanStatic? i with
  | some f => f.heatRating * 60
  | none => 0

/-- The member record of fan `i` takes the expired flag and a counted thrust of 0 (R30, R72). -/
def expireMember (i : Nat) (m : Member) : Member := if m.fan = i then { m with expired := true, counted := 0 } else m

/-- Step 1 for one fan: a hot-side fan accrues the control period, and expires when its count reaches its rating (R71,
R72). -/
def State.exposeFan (sc : Scenario) (s : State) (i : Nat) : State :=
  if s.fanSide sc i = .hot then
    let period := s.controlPeriod
    let s := s.modifyFan i (fun f => { f with exposure := min Config.count16Max (f.exposure + period) })
    if s.heatLimit i ≤ (s.fan i).exposure ∧ (s.fan i).expired = false then
      ((s.modifyFan i (fun f => { f with expired := true })).setDuty (s.line.duty.map (expireMember i))).raise .fanExpired
    else s
  else s

/-- Step 1 of the boundary (R71, R72). -/
def State.exposeAll (s : State) (sc : Scenario) : State := forEach (State.exposeFan sc) s (List.range s.fanCount)

/-- Step 2 of the boundary: a pending target becomes active and resets both counts (R78), then a pending full-thrust
value becomes active (R79). -/
def Scenario.applyPending (sc : Scenario) : Scenario :=
  let sc :=
    match sc.pendingTarget with
    | some v => { sc with target := v, pendingTarget := none, lowCount := 0, highCount := 0 }
    | none => sc
  match sc.pendingFullThrust with
  | some b => { sc with fullThrust := b, pendingFullThrust := none }
  | none => sc

/-- The line is settled (R83): at least one member, every member's fan RUNNING, membership changed no. -/
def State.settled (s : State) (sc : Scenario) : Bool :=
  !s.line.duty.isEmpty
    && s.line.duty.all (fun m => match (s.fan m.fan).state with | .running _ => true | _ => false)
    && !sc.membershipChanged

/-- The trim step's arithmetic (R85): the error against the band moves the counts, and the second of a pair moves t by
1 within −8..+8. -/
def Scenario.trimStep (sc : Scenario) (vm : Int) (band : Nat) : Scenario :=
  let e := vm - sc.target
  if e < -(band : Int) then
    if sc.lowCount + 1 < 2 then { sc with highCount := 0, lowCount := sc.lowCount + 1 }
    else { sc with highCount := 0, lowCount := 0, trim := if sc.trim < 8 then sc.trim + 1 else sc.trim }
  else if (band : Int) < e then
    if sc.highCount + 1 < 2 then { sc with lowCount := 0, highCount := sc.highCount + 1 }
    else { sc with lowCount := 0, highCount := 0, trim := if -8 < sc.trim then sc.trim - 1 else sc.trim }
  else { sc with lowCount := 0, highCount := 0 }

/-- The trim band B of the image in use (R85). -/
def State.trimBand (s : State) : Nat :=
  match s.tunnel? with
  | some t => t.trimBand
  | none => 0

/-- Step 3 of the boundary: the trim step is taken when full thrust is inactive, vm is available and the line is
settled; otherwise it is held (R84). -/
def State.takeTrim (s : State) (vm : Option Int) (sc : Scenario) : State :=
  match vm with
  | some v => if !sc.fullThrust && s.settled sc then s.modifyScenario (fun sc => sc.trimStep v s.trimBand) else s
  | none => s

/-- The five steps of a boundary in FIRE, on the vm of its window end (R77). -/
def State.fireBoundary (s : State) (vm : Option Int) : State :=
  let s := (s.withScenario State.exposeAll).modifyScenario Scenario.applyPending
  let s := s.withScenario (fun s sc => s.takeTrim vm sc)
  (s.modifyScenario (fun sc => { sc with membershipChanged := false })).evaluate

end Sys2Proof.Machine
end

