-- ==== Sys2Proof/Machine/Queries.lean ====
section
/-! DEFINITION. The requests that ask (Chapter 9 and the owners' reply rules): each answers the state after its taking
and the reply. The order of the checks is that of R164: NO_IMAGE, BAD_LENGTH, then the owner's. -/

namespace Sys2Proof.Machine

/-- What taking a request gives: the state with its effects complete, and its reply (R164). -/
abbrev Served := State × Reply

/-- A refused request changes nothing at its owner (R164). -/
def refuse (type : Byte) (reason : RefuseReason) (s : State) : Served := (s, .refuse type reason)

/-- The request is taken only while an image is in use for requests (R164, check 2). -/
def withImage (type : Byte) (s : State) (k : Served) : Served := if s.noImage then refuse type .noImage s else k

/-- The request is taken only with a payload of a length it allows (R164, check 3). -/
def withOperand {α : Type} (type : Byte) (s : State) (operand : Option α) (k : α → Served) : Served :=
  match operand with
  | some a => k a
  | none => refuse type .badLength s

/-- IDENTIFY (R167). -/
def serveIdentify (payload : List Byte) (s : State) : Served :=
  withOperand 0x01 s (operandNone payload) fun _ => (s, .ident (s.image.map (fun m => (m.identifier, m.crc))))

/-- The scenario fields of STATUS (R168). -/
def Scenario.report (sc : Scenario) : ScenarioReport :=
  { chainage := sc.chainage, direction := sc.direction, fireClass := sc.fireClass, trainLength := sc.trainLength,
    target := sc.target, pendingTarget := sc.pendingTarget, fullThrust := sc.fullThrust,
    pendingFullThrust := sc.pendingFullThrust, windowLow := sc.windowLow, windowHigh := sc.windowHigh, plan := sc.plan,
    lowCount := sc.lowCount, highCount := sc.highCount, preference := sc.preference }

/-- The fan is in RUNNING. -/
def FanState.isRunning : FanState → Bool
  | .running _ => true
  | _ => false

/-- The running thrust sum: the stored counted thrust of the members whose fans are in RUNNING (R34). -/
def State.runningSum (s : State) : Nat := countedSum (s.line.duty.filter (fun m => (s.fan m.fan).state.isRunning))

/-- The STATUS reply as the state stands (R32 to R34, R49, R74, R90, R137, R155, R168). -/
def State.status (s : State) : StatusReply :=
  { mode := s.line.mode
    loadFault := s.loader.fault
    eventsPending := !decide (s.events.set = 0#12)
    goodFrames := s.link.goodFrames
    crcErrors := s.link.crcErrors
    discards := s.link.discards
    feeders := s.feeders.map (fun f => f.state)
    vm := s.air.vm
    required := match s.line.scenario with | some sc => sc.required | none => 0
    dutySize := s.line.duty.length
    countedSum := countedSum s.line.duty
    runningSum := s.runningSum
    shortfall := match s.line.scenario with | some sc => sc.shortfall | none => false
    trim := match s.line.scenario with | some sc => sc.trim | none => 0
    scenario := s.line.scenario.map Scenario.report }

/-- GET_STATUS (R168). -/
def serveGetStatus (payload : List Byte) (s : State) : Served :=
  withOperand 0x02 s (operandNone payload) fun _ => (s, .status s.status)

/-- The place of fan `i` in the duty set, 1 for the first (R52); `n` is the position of the list's first member. -/
def dutyPosition (i : Nat) : List Member → Nat → Option Nat
  | [], _ => none
  | m :: ms, n => if m.fan = i then some n else dutyPosition i ms (n + 1)

/-- The FAN reply of an installed fan (R118). -/
def State.fanReply (s : State) (i : Nat) (st : FanStatic) : FanReply :=
  let f := s.fan i
  { fan := i, static := st, state := f.state, demand := f.demand, coastRemaining := st.coastTime - f.coastTimer,
    restartUsed := f.restartUsed, lockout := f.lockout, lastFault := f.lastFault, exposure := f.exposure,
    expired := f.expired, fb := f.fb, trip := f.trip, iso := f.iso,
    hotSide := match s.line.scenario with | some sc => decide (s.fanSide sc i = .hot) | none => false
    excluded := match s.line.scenario with | some sc => s.fanExcluded sc i | none => false
    dutyPosition := dutyPosition i s.line.duty 1 }

/-- GET_FAN (R118). -/
def serveGetFan (payload : List Byte) (s : State) : Served :=
  withImage 0x03 s <| withOperand 0x03 s (operandByte payload) fun i =>
    match s.fanStatic? i with
    | some st => (s, .fan (s.fanReply i st))
    | none => refuse 0x03 .range s

/-- GET_FAN_TABLE (R118). -/
def serveGetFanTable (payload : List Byte) (s : State) : Served :=
  withImage 0x04 s <| withOperand 0x04 s (operandNone payload) fun _ => (s, .fanTable (s.fans.map (fun f => f.state)))

/-- GET_DUTY (R35, R74). -/
def serveGetDuty (payload : List Byte) (s : State) : Served :=
  withImage 0x05 s <| withOperand 0x05 s (operandNone payload) fun _ => (s, .duty s.line.duty)

/-- The start queue, head first, each entry with the class of its group (R129). -/
def Feeder.queue (f : Feeder) : List QueueItem :=
  f.urgent.map (fun e => { fan := e.fan, cls := .urgent, dir := e.dir })
    ++ f.routine.map (fun e => { fan := e.fan, cls := .routine, dir := e.dir })

/-- GET_QUEUE (R137). -/
def serveGetQueue (payload : List Byte) (s : State) : Served :=
  withImage 0x06 s <| withOperand 0x06 s (operandByte payload) fun n =>
    match s.feeders[n]? with
    | some f =>
      (s, .queue { feeder := n, state := f.state, settleRemaining := f.settleTimer, slots := s.slots n,
                   startingCount := f.startingCount, avail := (s.inputs n).avail, vlow := (s.inputs n).vlow,
                   entries := f.queue })
    | none => refuse 0x06 .range s

/-- One channel of the AIRFLOW reply (R155). -/
def State.channelReport (s : State) (c : Channel) (n : Nat) : ChannelReport :=
  { samples := c.ring.length, newest := c.ring.getLast?, valid := c.valid, velocity := c.velocity,
    side := s.line.scenario.map (fun sc => s.channelSide sc n) }

/-- GET_AIRFLOW (R155). -/
def serveGetAirflow (payload : List Byte) (s : State) : Served :=
  withImage 0x07 s <| withOperand 0x07 s (operandNone payload) fun _ =>
    (s, .airflow s.air.vm (s.air.channels.zipIdx.map (fun p => s.channelReport p.1 p.2)))

/-- READ_EVENTS (R176). -/
def serveReadEvents (payload : List Byte) (s : State) : Served :=
  withOperand 0x08 s (operandNone payload) fun _ => ({ s with events := s.events.read }, .events s.events.set)

/-- SET_EVENT_MASK (R177): bits 12 to 15 are ignored. -/
def serveSetEventMask (payload : List Byte) (s : State) : Served :=
  withOperand 0x09 s (operandWord payload) fun mask =>
    ({ s with events := s.events.setMask (BitVec.ofNat 12 mask) }, .accept 0x09)

end Sys2Proof.Machine
end

