-- ==== Sys2Proof/Machine/Orders.lean ====
section
/-! DEFINITION. The requests that order: the scenario requests of Chapters 1 and 5, the fan requests of Chapter 6 and
RELOAD_IMAGE of Chapter 11. Each answers the state after its taking and the reply. -/

namespace Sys2Proof.Machine

/-! ### The fire scenario -/

/-- ACTIVATE_FIRE (R6): NO_IMAGE, BAD_LENGTH, RANGE, then an activation in NORMAL, an update or a redirection in FIRE.
-/
def serveActivateFire (payload : List Byte) (s : State) : Served :=
  withImage 0x10 s <| withOperand 0x10 s (operandFire payload) fun req =>
    match s.tunnel?, s.fireClass? req.fireClass, directionOfCode req.directionCode with
    | some t, some k, some d =>
      if t.length < req.chainage then refuse 0x10 .range s
      else
        match s.line.scenario with
        | none => (s.activate t.length k req d, .accept 0x10)
        | some sc =>
          if d = sc.direction then (s.update t.length k req d, .accept 0x10)
          else (s.redirect t.length k req d, .accept 0x10)
    | _, _, _ => refuse 0x10 .range s

/-- SET_TARGET (R80). -/
def serveSetTarget (payload : List Byte) (s : State) : Served :=
  withImage 0x11 s <| withOperand 0x11 s (operandWord payload) fun v =>
    if s.line.mode = .fire then
      (s.modifyScenario (fun sc => { sc with pendingTarget := some (clampNat 100 600 v) }), .accept 0x11)
    else refuse 0x11 .mode s

/-- FULL_THRUST (R81). -/
def serveFullThrust (payload : List Byte) (s : State) : Served :=
  withImage 0x12 s <| withOperand 0x12 s (operandByte payload) fun code =>
    if s.line.mode = .fire then
      match settingOfCode code with
      | some b => (s.modifyScenario (fun sc => { sc with pendingFullThrust := some b }), .accept 0x12)
      | none => refuse 0x12 .range s
    else refuse 0x12 .mode s

/-- STAND_DOWN (R17). -/
def serveStandDown (payload : List Byte) (s : State) : Served :=
  withImage 0x13 s <| withOperand 0x13 s (operandNone payload) fun _ =>
    if s.line.mode = .fire then (s.endFire, .accept 0x13) else refuse 0x13 .mode s

/-! ### Fans -/

/-- A run action is refused STATE for a fan in TRIPPED, FAILED or ISOLATED, or locked out (R115). -/
def Fan.refusesRun (f : Fan) : Bool :=
  decide (f.state = .tripped) || decide (f.state = .failed) || decide (f.state = .isolated) || f.lockout

/-- FAN_COMMAND (R115). -/
def serveFanCommand (payload : List Byte) (s : State) : Served :=
  withImage 0x20 s <| withOperand 0x20 s (operandFanAction payload) fun a =>
    if s.line.mode = .fire then refuse 0x20 .mode s
    else if s.fanCount ≤ a.1 then refuse 0x20 .range s
    else
      match demandOfAction a.2 with
      | none => refuse 0x20 .range s
      | some .none => (s.writeDemand a.1 .none, .accept 0x20)
      | some (.run d c) =>
        if (s.fan a.1).refusesRun then refuse 0x20 .state s else (s.writeDemand a.1 (.run d c), .accept 0x20)

/-- LOCKOUT's effect (R116): lockout yes, the demand NONE, and a fan in a working state enters ISOLATED (R110). A fan
already locked out is not changed. -/
def State.lockFan (s : State) (i : Nat) : State :=
  if (s.fan i).lockout then s
  else
    let s := (s.modifyFan i (fun f => { f with lockout := true })).writeDemand i .none
    if (s.fan i).state.isWorking then s.enterHolding i .isolated none else s

/-- LOCKOUT (R116). -/
def serveLockout (payload : List Byte) (s : State) : Served :=
  withImage 0x21 s <| withOperand 0x21 s (operandByte payload) fun i =>
    if s.line.mode = .fire then refuse 0x21 .mode s
    else if s.fanCount ≤ i then refuse 0x21 .range s
    else (s.lockFan i, .accept 0x21)

/-- RESTORE has something to restore: the fan is TRIPPED, FAILED, locked out or expired (R117). -/
def Fan.restorable (f : Fan) : Bool :=
  decide (f.state = .tripped) || decide (f.state = .failed) || f.lockout || f.expired

/-- The member record of fan `i` follows the fan's cleared expired flag; its counted thrust stays (R30). -/
def unexpireMember (i : Nat) (m : Member) : Member := if m.fan = i then { m with expired := false } else m

/-- RESTORE's effect (R117): lockout, restart_used, exposure and expired are cleared; a TRIPPED or FAILED fan leaves its
state and is placed by R109; an ISOLATED fan whose ISO is inactive leaves too (R110). The timer of R106 and
the member record are as notes/assumptions 11 and 13 say (DEDUCED). -/
def State.restoreFan (s : State) (i : Nat) : State :=
  let s := (s.modifyFan i
    (fun f => { f with lockout := false, restartUsed := false, exposure := 0, expired := false })).setDuty
    (s.line.duty.map (unexpireMember i))
  if (s.fan i).state = .tripped ∨ (s.fan i).state = .failed then (s.resumeStuckTimer i).placeFan i
  else if (s.fan i).state = .isolated ∧ (s.fan i).iso = false then s.placeFan i
  else s

/-- RESTORE (R117). -/
def serveRestore (payload : List Byte) (s : State) : Served :=
  withImage 0x22 s <| withOperand 0x22 s (operandByte payload) fun i =>
    if s.fanCount ≤ i then refuse 0x22 .range s
    else if !(s.fan i).restorable || (s.fan i).trip then refuse 0x22 .state s
    else (s.restoreFan i, .accept 0x22)

/-! ### Reload -/

/-- RELOAD_IMAGE (R183): NO_IMAGE in LOADING, BAD_LENGTH, MODE in FIRE, STATE in NORMAL with a condition unmet. -/
def serveReloadImage (payload : List Byte) (s : State) : Served :=
  if s.line.mode = .loading then refuse 0x30 .noImage s
  else withOperand 0x30 s (operandNone payload) fun _ =>
    if s.line.mode = .fire then refuse 0x30 .mode s
    else if s.line.mode = .normal ∧ s.reloadReady = false then refuse 0x30 .state s
    else (s.acceptReload, .accept 0x30)

/-! ### By type -/

/-- The request that a frame's type names, served; a type that names none is refused UNKNOWN_TYPE (R164, check 1). -/
def serveType (type : Byte) (payload : List Byte) (s : State) : Served :=
  if type = 0x01 then serveIdentify payload s
  else if type = 0x02 then serveGetStatus payload s
  else if type = 0x03 then serveGetFan payload s
  else if type = 0x04 then serveGetFanTable payload s
  else if type = 0x05 then serveGetDuty payload s
  else if type = 0x06 then serveGetQueue payload s
  else if type = 0x07 then serveGetAirflow payload s
  else if type = 0x08 then serveReadEvents payload s
  else if type = 0x09 then serveSetEventMask payload s
  else if type = 0x10 then serveActivateFire payload s
  else if type = 0x11 then serveSetTarget payload s
  else if type = 0x12 then serveFullThrust payload s
  else if type = 0x13 then serveStandDown payload s
  else if type = 0x20 then serveFanCommand payload s
  else if type = 0x21 then serveLockout payload s
  else if type = 0x22 then serveRestore payload s
  else if type = 0x30 then serveReloadImage payload s
  else refuse type .unknownType s

end Sys2Proof.Machine
end

