-- ==== Sys2Proof/Machine/Link.lean ====
section
/-! DEFINITION. The control link: dropping, discarding and taking frames, and the receive framer byte by byte (R159 to
R166, R169). -/

namespace Sys2Proof.Machine

/-- A frame is dropped: the CRC error count rises, saturating, and LINK_ERROR is raised (R162). The framer goes where
R160 says. -/
def State.dropFrame (s : State) (framer : Framer) : State :=
  { s with link := { s.link with framer := framer, crcErrors := min Config.count16Max (s.link.crcErrors + 1) } }.raise
    .linkError

/-- The link timeout of the image in use (R169). -/
def State.linkTimeout (s : State) : Nat :=
  match s.tunnel? with
  | some t => t.linkTimeout
  | none => 0

/-- A well-formed frame restarts a COUNTING watchdog and brings a LOST one back (R169). -/
def Watchdog.frame : Watchdog → Watchdog
  | .stopped => .stopped
  | .counting _ => .counting 0
  | .lost => .counting 0

/-- A well-formed frame's last byte arrives: the framer is HUNTING again, the good frame count rises, wrapping, and the
watchdog restarts or resumes (R160, R163, R169). -/
def ControlLink.goodFrame (l : ControlLink) : ControlLink :=
  { l with framer := .hunting, gapMs := 0, goodFrames := (l.goodFrames + 1) % 65536, watchdog := l.watchdog.frame }

/-- A well-formed frame meets a full queue: it is discarded and counted, and LINK_ERROR is raised (R163). -/
def State.discardFrame (s : State) : State :=
  { s with link := { s.link with discards := min Config.count16Max (s.link.discards + 1) } }.raise .linkError

/-- The reply is appended to the transmit queue at the end of the taking (R164, R165). -/
def appendReply (r : Served) : State := { r.1 with link := r.1.link.append r.2 }

/-- A well-formed frame: counted, then taken when the transmit queue has room, or discarded (R163); an ATTENTION asked
for in the taking is considered after the reply (R164, R166). -/
def receiveFrame (serve : State → Served) (s : State) : State :=
  let s := { s with link := s.link.goodFrame }
  if s.link.tx.length < Config.txCapacity then (appendReply (serve s)).settle else s.discardFrame.settle

/-- A request frame with a payload of `length` bytes: beyond the LEN of 256 that requests may have, the frame is dropped
as its LEN is read (R159, R160, R162). -/
def receiveRequest (length : Nat) (serve : State → Served) (s : State) : State :=
  if Config.maxRequestLen < length + 1 then ({ s with link := { s.link with gapMs := 0 } }.dropFrame .skipping).settle
  else receiveFrame serve s

/-- LEN of the frame being collected, once its two bytes are in (R159). -/
def collectedLen (bytes : List Byte) : Nat := be16 (bytes.getD 0 0) (bytes.getD 1 0)

/-- The frame's check matches: its last two bytes are the check of the bytes before them (R161). -/
def checkMatches (bytes : List Byte) : Bool :=
  let body := bytes.take (bytes.length - 2)
  decide (beNat (bytes.drop (bytes.length - 2)) = (crc16 body).toNat)

/-- A byte in COLLECTING (R160): after the second, LEN is judged; the last byte of the frame brings its check to
judgement (R161); any other is stored. `bytes` is the frame with this byte. -/
def collect (bytes : List Byte) (s : State) : State :=
  let store := fun (s : State) => { s with link := { s.link with framer := .collecting bytes } }
  if bytes.length < 2 then store s
  else if bytes.length = 2 then
    if collectedLen bytes = 0 ∨ Config.maxRequestLen < collectedLen bytes then (s.dropFrame .skipping).settle else store s
  else if bytes.length < collectedLen bytes + 4 then store s
  else if checkMatches bytes then
    receiveFrame (serveType (bytes.getD 2 0) ((bytes.drop 3).take (collectedLen bytes - 1))) s
  else (s.dropFrame .hunting).settle

/-- A byte arrives (R160); every byte restarts the gap time. A broken byte drops a frame being collected and is
otherwise ignored (R159, R162). -/
def receiveByte (b : Byte) (stopBit : Bool) (s : State) : State :=
  let s := { s with link := { s.link with gapMs := 0 } }
  match s.link.framer with
  | .hunting => if stopBit = true ∧ b = 0xA5 then { s with link := { s.link with framer := .collecting [] } } else s
  | .collecting bytes => if stopBit then collect (bytes ++ [b]) s else (s.dropFrame .skipping).settle
  | .skipping => s

end Sys2Proof.Machine
end

