-- ==== Sys2Proof/Machine/RequestMeanings.lean ====
section
/-! DEFINITION. The meanings of the request rows: a well-formed frame of the row's type arrives (R163) and, with room in
the transmit queue, is taken (R164). One definition for each row. -/

namespace Sys2Proof.Machine

/-- The outcome of a command. -/
abbrev Result := Host.Outcome State Fault Refusal

/-- IDENTIFY (R167). -/
def execIdentify (payload : List Byte) (s : State) : Result :=
  .next (receiveRequest payload.length (serveIdentify payload) s)

/-- GET_STATUS (R168). -/
def execGetStatus (payload : List Byte) (s : State) : Result :=
  .next (receiveRequest payload.length (serveGetStatus payload) s)

/-- GET_FAN (R118). -/
def execGetFan (payload : List Byte) (s : State) : Result :=
  .next (receiveRequest payload.length (serveGetFan payload) s)

/-- GET_FAN_TABLE (R118). -/
def execGetFanTable (payload : List Byte) (s : State) : Result :=
  .next (receiveRequest payload.length (serveGetFanTable payload) s)

/-- GET_DUTY (R35). -/
def execGetDuty (payload : List Byte) (s : State) : Result :=
  .next (receiveRequest payload.length (serveGetDuty payload) s)

/-- GET_QUEUE (R137). -/
def execGetQueue (payload : List Byte) (s : State) : Result :=
  .next (receiveRequest payload.length (serveGetQueue payload) s)

/-- GET_AIRFLOW (R155). -/
def execGetAirflow (payload : List Byte) (s : State) : Result :=
  .next (receiveRequest payload.length (serveGetAirflow payload) s)

/-- READ_EVENTS (R176). -/
def execReadEvents (payload : List Byte) (s : State) : Result :=
  .next (receiveRequest payload.length (serveReadEvents payload) s)

/-- SET_EVENT_MASK (R177). -/
def execSetEventMask (payload : List Byte) (s : State) : Result :=
  .next (receiveRequest payload.length (serveSetEventMask payload) s)

/-- ACTIVATE_FIRE (R6). -/
def execActivateFire (payload : List Byte) (s : State) : Result :=
  .next (receiveRequest payload.length (serveActivateFire payload) s)

/-- SET_TARGET (R80). -/
def execSetTarget (payload : List Byte) (s : State) : Result :=
  .next (receiveRequest payload.length (serveSetTarget payload) s)

/-- FULL_THRUST (R81). -/
def execFullThrust (payload : List Byte) (s : State) : Result :=
  .next (receiveRequest payload.length (serveFullThrust payload) s)

/-- STAND_DOWN (R17). -/
def execStandDown (payload : List Byte) (s : State) : Result :=
  .next (receiveRequest payload.length (serveStandDown payload) s)

/-- FAN_COMMAND (R115). -/
def execFanCommand (payload : List Byte) (s : State) : Result :=
  .next (receiveRequest payload.length (serveFanCommand payload) s)

/-- LOCKOUT (R116). -/
def execLockout (payload : List Byte) (s : State) : Result :=
  .next (receiveRequest payload.length (serveLockout payload) s)

/-- RESTORE (R117). -/
def execRestore (payload : List Byte) (s : State) : Result :=
  .next (receiveRequest payload.length (serveRestore payload) s)

/-- RELOAD_IMAGE (R183). -/
def execReloadImage (payload : List Byte) (s : State) : Result :=
  .next (receiveRequest payload.length (serveReloadImage payload) s)

/-- UNKNOWN_TYPE (R164): a frame of a type that names no request is refused; a type that names one is that request. -/
def execUnknownType (type : Byte) (payload : List Byte) (s : State) : Result :=
  .next (receiveRequest payload.length (serveType type payload) s)

/-- FRAME_DISCARDED (R163): a well-formed frame that meets a full transmit queue is discarded; one that finds room is
the request it names. -/
def execFrameDiscarded (type : Byte) (payload : List Byte) (s : State) : Result :=
  .next (receiveRequest payload.length (serveType type payload) s)

end Sys2Proof.Machine
end

