-- ==== Sys2Proof/Machine/AirMeanings.lean ====
section
/-! DEFINITION. The meanings of the airflow and control-period rows (Chapters 5 and 8). -/

namespace Sys2Proof.Machine

/-- PULSE (R145): counted in the running window. Beyond the limits of R143 whether it is counted is a free value. -/
def execPulse (channel : Fin 16) (inLimits : Bool) (s : State) : Result :=
  if inLimits then .next (s.onChannel channel Channel.countPulse)
  else
    let s' := if Config.freePulseCounted s.freeIndex then s.onChannel channel Channel.countPulse else s
    .next { s' with freeIndex := s.freeIndex + 1 }

/-- ANEMOMETER_DIR_CHANGE (R145). -/
def execAnemometerDirChange (channel : Fin 16) (s : State) : Result := .next (s.onChannel channel Channel.changeDir)

/-- HEALTH_LOST (R145). -/
def execHealthLost (channel : Fin 16) (s : State) : Result := .next (s.onChannel channel Channel.loseHealth)

/-- The number of windows M of a control period (R75). -/
def State.windowsPerPeriod (s : State) : Nat :=
  match s.tunnel? with
  | some t => t.windowsPerPeriod
  | none => 0

/-- The control-period counter counts a window end; the M-th makes a boundary, which will read the vm just published
(R75, R77). -/
def State.countWindowEnd (s : State) : State :=
  if s.line.counting then
    if s.windowsPerPeriod ≤ s.line.windowCount + 1 then
      { s with line := { s.line with windowCount := 0, boundaryDue := some s.air.vm } }
    else { s with line := { s.line with windowCount := s.line.windowCount + 1 } }
  else s

/-- The window end whose boundary a STAND_DOWN has overtaken is counted (R89). -/
def State.countOvertaken (s : State) : State := { s with line := { s.line with overtaken := false } }.countWindowEnd

/-- WINDOW_END (R146), its seven steps in order: samples and rings, validity and velocity, vm with FEEDBACK_LOST,
AIRFLOW_FAULT, the next windows, the count. The timer does not run in LOADING and CONFIG_FAULT, where there is no window
end (R144). -/
def execWindowEnd (health : BitVec 16) (s : State) : Result :=
  match s.air.windowTimer with
  | none => .next s
  | some _ =>
    .next ((((s.takeSnapshot.publishVm).refreshAirflowFault).beginWindows health).countWindowEnd).settle

/-- CONTROL_PERIOD_BOUNDARY (R76, R77): nothing but the counter in NORMAL, the five steps in FIRE. It reads the vm of
the window end that made it. A boundary the counter has not made is taken as the counter reaching M now
(DESIGN CHOICE, notes/assumptions 2, 6). A boundary that a STAND_DOWN has overtaken does nothing but have its window
end counted from the zero which the stand-down set (R89). -/
def execControlPeriodBoundary (s : State) : Result :=
  let count := if s.line.boundaryDue.isSome then s.line.windowCount else 0
  let taken := { s with line := { s.line with windowCount := count, boundaryDue := none } }
  match s.line.mode with
  | .fire => if s.line.overtaken then .next s.countOvertaken
    else .next (taken.fireBoundary (s.line.boundaryDue.getD s.air.vm)).settle
  | .normal => if s.line.overtaken then .next s.countOvertaken else .next taken
  | .loading => .next s
  | .configFault => .next s

end Sys2Proof.Machine
end

