-- ==== Sys2Proof/Machine/FanMeanings.lean ====
section
/-! DEFINITION. The meanings of the fan rows: the debounced inputs and the per-fan timers (Chapter 6). An event of a fan
group without a record changes nothing: its inputs are not watched (R91). Whether the loss
report of a member waits is a free value (R57, R69; DESIGN CHOICE, notes/assumptions 24). -/

namespace Sys2Proof.Machine

/-- An event of fan `i`, acted on while the fan has a record. -/
def State.atFan (s : State) (i : Nat) (act : Fan → State → State) : State :=
  if i < s.fanCount then (act (s.fan i) s).settle else s

/-- FB_ACTIVE (R100, R106): in CONFIRM the fan enters RUNNING and frees its slot; with RUN off, outside FAILED, the
stuck-running timer starts. -/
def execFbActive (fan : Fin 64) (s : State) : Result :=
  .next (s.atFan fan fun f s =>
    if f.fb then s
    else
      let allowance := s.feedbackAllowance
      let s := s.modifyFan fan (fun g => { g with fb := true })
      match f.state with
      | .starting d (.confirm _) => (s.modifyFan fan (fun g => { g with state := .running d })).freeSlot fan
      | .failed => s
      | _ => if f.run then s else s.modifyFan fan (fun g => { g with stuckTimer := some allowance }))

/-- FB_INACTIVE (R102, R106): the stuck-running timer is discarded; in RUNNING the fan has stopped uncommanded. -/
def execFbInactive (fan : Fin 64) (s : State) : Result :=
  .next (s.atFan fan fun f s =>
    if f.fb then
      let s := s.modifyFan fan (fun g => { g with fb := false, stuckTimer := none })
      match f.state with
      | .running _ => s.nextFree.tripFan fan .uncommandedStop s.reportWaits
      | _ => s
    else s)

/-- TRIP_ACTIVE (R105). -/
def execTripActive (fan : Fin 64) (s : State) : Result :=
  .next (s.atFan fan fun f s =>
    if f.trip then s
    else
      let s := s.modifyFan fan (fun g => { g with trip := true })
      if f.state.isWorking then s.nextFree.tripFan fan .trip s.reportWaits else s)

/-- TRIP_INACTIVE (R108). -/
def execTripInactive (fan : Fin 64) (s : State) : Result :=
  .next (s.atFan fan fun f s =>
    if f.trip then (s.modifyFan fan (fun g => { g with trip := false })).examineRestart fan else s)

/-- ISO_ACTIVE (R110). Taken before a grant it leaves the fan ISOLATED and out of its queue, so that no grant follows;
taken after one, ISOLATED from STARTING: R119's row 'ISO; grant' has the two outcomes exchanged (DESIGN CHOICE,
notes/assumptions 23). -/
def execIsoActive (fan : Fin 64) (s : State) : Result :=
  .next (s.atFan fan fun f s =>
    if f.iso then s
    else
      let s := s.modifyFan fan (fun g => { g with iso := true })
      if f.state.isWorking then s.nextFree.loseFan fan .isolated none s.reportWaits else s)

/-- ISO_INACTIVE (R110). -/
def execIsoInactive (fan : Fin 64) (s : State) : Result :=
  .next (s.atFan fan fun f s =>
    if f.iso then
      let s := s.modifyFan fan (fun g => { g with iso := false })
      if f.state = .isolated ∧ f.lockout = false then s.placeFan fan else s
    else s)

/-- RAMP_TIMER_EXPIRY (R99): RUNNING if FB is active, otherwise the CONFIRM phase with the feedback allowance. -/
def execRampTimerExpiry (fan : Fin 64) (s : State) : Result :=
  .next (s.atFan fan fun f s =>
    match f.state with
    | .starting d (.ramp _) =>
      if f.fb then (s.modifyFan fan (fun g => { g with state := .running d })).freeSlot fan
      else
        let allowance := s.feedbackAllowance
        s.modifyFan fan (fun g => { g with state := .starting d (.confirm allowance) })
    | _ => s)

/-- CONFIRM_TIMER_EXPIRY (R100): with FB inactive the start has failed. -/
def execConfirmTimerExpiry (fan : Fin 64) (s : State) : Result :=
  .next (s.atFan fan fun f s =>
    match f.state with
    | .starting _ (.confirm _) => if f.fb then s else s.nextFree.tripFan fan .failToStart s.reportWaits
    | _ => s)

/-- COAST_TIMER_EXPIRY: the count stands at the coast time; a COASTING fan enters IDLE, and QUEUED at once if it holds a
run demand (R104); a TRIPPED fan is examined for its restart (R108), an UNPOWERED one for its power (R112). -/
def execCoastTimerExpiry (fan : Fin 64) (s : State) : Result :=
  .next (s.atFan fan fun f s =>
    let limit := s.coastTime fan
    let s := s.modifyFan fan (fun g => { g with coastTimer := max g.coastTimer limit })
    match f.state with
    | .coasting => s.toIdle fan
    | .tripped => s.examineRestart fan
    | .unpowered => s.examinePower fan
    | _ => s)

/-- STUCK_RUNNING_TIMER_EXPIRY (R106): while the timer runs, the fan enters FAILED with STUCK_RUNNING from whatever
state it is in. -/
def execStuckRunningTimerExpiry (fan : Fin 64) (s : State) : Result :=
  .next (s.atFan fan fun f s =>
    if f.stuckTimer.isSome then s.nextFree.loseFan fan .failed (some .stuckRunning) s.reportWaits else s)

end Sys2Proof.Machine
end

