-- ==== Sys2Proof/Machine/FeederMeanings.lean ====
section
/-! DEFINITION. The meanings of the feeder rows: the debounced inputs and the settle timer, by the transition table of
R125. The inputs of all four groups are watched in every mode (R124); a group without a record has no state to move
(R123). -/

namespace Sys2Proof.Machine

/-- AVAIL_INACTIVE (R125, R127): an installed feeder that is not DEAD enters DEAD. Whether the loss
report of the last fan taken waits, if it is a member's, is a free value (R111; DESIGN CHOICE, notes/assumptions 24). -/
def execAvailInactive (feeder : Fin 4) (s : State) : Result :=
  if (s.inputs feeder).avail = false then .next s
  else
    let s := s.modifyInputs feeder (fun x => { x with avail := false })
    match s.feederState feeder with
    | some .hold | some .settling | some .ready => .next (s.nextFree.feederDies feeder s.reportWaits).settle
    | some .dead => .next s
    | none => .next s

/-- AVAIL_ACTIVE (R125): a DEAD feeder enters HOLD if VLOW is active, otherwise SETTLING. -/
def execAvailActive (feeder : Fin 4) (s : State) : Result :=
  if (s.inputs feeder).avail then .next s
  else
    let s := s.modifyInputs feeder (fun x => { x with avail := true })
    match s.feederState feeder with
    | some .dead => .next (s.moveFeeder feeder (if (s.inputs feeder).vlow then .hold else .settling)).settle
    | some .hold | some .settling | some .ready => .next s
    | none => .next s

/-- VLOW_ACTIVE (R125): a SETTLING or READY feeder enters HOLD; in DEAD the level is recorded. -/
def execVlowActive (feeder : Fin 4) (s : State) : Result :=
  if (s.inputs feeder).vlow then .next s
  else
    let s := s.modifyInputs feeder (fun x => { x with vlow := true })
    match s.feederState feeder with
    | some .settling | some .ready => .next (s.moveFeeder feeder .hold).settle
    | some .dead | some .hold => .next s
    | none => .next s

/-- VLOW_INACTIVE (R125): a HOLD feeder enters SETTLING with the full settle time; in DEAD the level is recorded. -/
def execVlowInactive (feeder : Fin 4) (s : State) : Result :=
  if (s.inputs feeder).vlow = false then .next s
  else
    let s := s.modifyInputs feeder (fun x => { x with vlow := false })
    match s.feederState feeder with
    | some .hold => .next (s.moveFeeder feeder .settling).settle
    | some .dead | some .settling | some .ready => .next s
    | none => .next s

/-- SETTLE_TIMER_EXPIRY (R128): a SETTLING feeder enters READY, fills its free slots and releases its UNPOWERED fans. -/
def execSettleTimerExpiry (feeder : Fin 4) (s : State) : Result :=
  match s.feederState feeder with
  | some .settling => .next (s.feederReady feeder).settle
  | some .dead | some .hold | some .ready => .next s
  | none => .next s

end Sys2Proof.Machine
end

