-- ==== Sys2Proof/Machine/LinkMeanings.lean ====
section
/-! DEFINITION. The meanings of the control link's other rows: bytes, drops, gaps, sent frames, the watchdog (Chapter
9). -/

namespace Sys2Proof.Machine

/-- BYTE_RECEIVED (R160). -/
def execByteReceived (byte : Byte) (stopBit : Bool) (s : State) : Result := .next (receiveByte byte stopBit s)

/-- Where the framer goes after a drop (R160): HUNTING after a complete frame, SKIPPING after a bad LEN or a broken
byte. -/
def framerAfterDrop : DropCause → Framer
  | .badCheck => .hunting
  | .badLength => .skipping
  | .brokenByte => .skipping

/-- FRAME_DROPPED (R162): the frame being received is dropped for a bad check, a bad LEN or a broken byte. The command
says that there was such a frame, so it has this effect in HUNTING and SKIPPING too, where the framer's state holds none
(DESIGN CHOICE, notes/assumptions 2). -/
def execFrameDropped (cause : DropCause) (s : State) : Result :=
  .next ({ s with link := { s.link with gapMs := 0 } }.dropFrame (framerAfterDrop cause)).settle

/-- FRAME_GAP_TIMEOUT (R160, R162): in COLLECTING the frame is dropped and the framer hunts; in SKIPPING the framer
hunts. -/
def execFrameGapTimeout (s : State) : Result :=
  match s.link.framer with
  | .hunting => .next s
  | .collecting _ => .next (s.dropFrame .hunting).settle
  | .skipping => .next { s with link := { s.link with framer := .hunting } }

/-- FRAME_SENT (R165): the oldest frame leaves the transmit queue, its last byte sent. -/
def execFrameSent (s : State) : Result :=
  match s.link.tx with
  | [] => .next s
  | r :: rest => .next { s with link := { s.link with tx := rest, lastSent := r.frame } }

/-- The link fallback of the image in use, applied in NORMAL (R19); FIRE is left as it stands (R20). -/
def State.linkFallback (s : State) : State :=
  match s.line.mode, s.tunnel? with
  | .normal, some t =>
    match t.fallback with
    | .hold => s
    | .stopAll => s.stopEveryFan
  | _, _ => s

/-- LINK_TIMEOUT (R170): a COUNTING watchdog whose count has reached the link timeout is LOST, LINK_LOST is raised, the
line controller is told. A frame that was taken first has restarted the count: no expiry occurs (R19, R173). -/
def execLinkTimeout (s : State) : Result :=
  match s.link.watchdog with
  | .counting n =>
    if s.linkTimeout ≤ n then
      .next (({ s with link := { s.link with watchdog := .lost } }.raise .linkLost).linkFallback).settle
    else .next s
  | .stopped => .next s
  | .lost => .next s

end Sys2Proof.Machine
end

