-- ==== Sys2Proof/Machine/LoadMeanings.lean ====
section
/-! DEFINITION. The meanings of the reset and load rows (Chapter 11): FULL_RESET, LOAD_END, RELOAD_PULSE. -/

namespace Sys2Proof.Machine

/-- FULL_RESET (R1, R181): every field at its full-reset value, a load started. The commands that wait and the model's
own index of free values are no part of the block and stay. -/
def execFullReset (s : State) : Result := .next { State.reset with pending := s.pending, freeIndex := s.freeIndex }

/-- LOAD_END (R182): the load in progress ends with the result of the loader's passes over what the memory answered. -/
def execLoadEnd (memory : List Byte) (dir health : BitVec 16) (s : State) : Result :=
  match s.loader.load with
  | .idle => .next s
  | .reading =>
    match loadImage memory with
    | .ok m => .next (s.goodLoad m dir health).settle
    | .error cause => .next (s.failedLoad cause)

/-- A pulse is accepted in CONFIG_FAULT, and in NORMAL under the conditions of R183 (R184). -/
def State.pulseAccepted (s : State) : Bool :=
  decide (s.line.mode = .configFault) || (decide (s.line.mode = .normal) && s.reloadReady)

/-- RELOAD_PULSE (R184): accepted as a reload without a reply, or ignored with RELOAD_IGNORED raised. -/
def execReloadPulse (s : State) : Result :=
  let s := { s with loader := { s.loader with reloadInput := true } }
  if s.pulseAccepted then .next s.acceptReload.settle else .next (s.raise .reloadIgnored).settle

end Sys2Proof.Machine
end

