-- ==== Sys2Proof/Machine/Dispatch.lean ====
section
/-! DEFINITION. The dispatch: one arm for each command, each one direct call of its meaning. -/

namespace Sys2Proof.Machine

/-- The effect of a command on everything but the queue of waiting commands. -/
def exec (i : Instr) (s : State) : Host.Outcome State Fault Refusal :=
  match i with
  | .fullReset => Sys2Proof.Machine.execFullReset s
  | .loadEnd memory dir health => Sys2Proof.Machine.execLoadEnd memory dir health s
  | .reloadPulse => Sys2Proof.Machine.execReloadPulse s
  | .identify payload => Sys2Proof.Machine.execIdentify payload s
  | .getStatus payload => Sys2Proof.Machine.execGetStatus payload s
  | .getFan payload => Sys2Proof.Machine.execGetFan payload s
  | .getFanTable payload => Sys2Proof.Machine.execGetFanTable payload s
  | .getDuty payload => Sys2Proof.Machine.execGetDuty payload s
  | .getQueue payload => Sys2Proof.Machine.execGetQueue payload s
  | .getAirflow payload => Sys2Proof.Machine.execGetAirflow payload s
  | .readEvents payload => Sys2Proof.Machine.execReadEvents payload s
  | .setEventMask payload => Sys2Proof.Machine.execSetEventMask payload s
  | .activateFire payload => Sys2Proof.Machine.execActivateFire payload s
  | .setTarget payload => Sys2Proof.Machine.execSetTarget payload s
  | .fullThrust payload => Sys2Proof.Machine.execFullThrust payload s
  | .standDown payload => Sys2Proof.Machine.execStandDown payload s
  | .fanCommand payload => Sys2Proof.Machine.execFanCommand payload s
  | .lockout payload => Sys2Proof.Machine.execLockout payload s
  | .restore payload => Sys2Proof.Machine.execRestore payload s
  | .reloadImage payload => Sys2Proof.Machine.execReloadImage payload s
  | .unknownType type payload => Sys2Proof.Machine.execUnknownType type payload s
  | .frameDiscarded type payload => Sys2Proof.Machine.execFrameDiscarded type payload s
  | .frameDropped cause => Sys2Proof.Machine.execFrameDropped cause s
  | .frameGapTimeout => Sys2Proof.Machine.execFrameGapTimeout s
  | .frameSent => Sys2Proof.Machine.execFrameSent s
  | .linkTimeout => Sys2Proof.Machine.execLinkTimeout s
  | .windowEnd health => Sys2Proof.Machine.execWindowEnd health s
  | .controlPeriodBoundary => Sys2Proof.Machine.execControlPeriodBoundary s
  | .pulse channel inLimits => Sys2Proof.Machine.execPulse channel inLimits s
  | .anemometerDirChange channel => Sys2Proof.Machine.execAnemometerDirChange channel s
  | .healthLost channel => Sys2Proof.Machine.execHealthLost channel s
  | .fbActive fan => Sys2Proof.Machine.execFbActive fan s
  | .fbInactive fan => Sys2Proof.Machine.execFbInactive fan s
  | .tripActive fan => Sys2Proof.Machine.execTripActive fan s
  | .tripInactive fan => Sys2Proof.Machine.execTripInactive fan s
  | .isoActive fan => Sys2Proof.Machine.execIsoActive fan s
  | .isoInactive fan => Sys2Proof.Machine.execIsoInactive fan s
  | .rampTimerExpiry fan => Sys2Proof.Machine.execRampTimerExpiry fan s
  | .confirmTimerExpiry fan => Sys2Proof.Machine.execConfirmTimerExpiry fan s
  | .coastTimerExpiry fan => Sys2Proof.Machine.execCoastTimerExpiry fan s
  | .stuckRunningTimerExpiry fan => Sys2Proof.Machine.execStuckRunningTimerExpiry fan s
  | .availInactive feeder => Sys2Proof.Machine.execAvailInactive feeder s
  | .availActive feeder => Sys2Proof.Machine.execAvailActive feeder s
  | .vlowActive feeder => Sys2Proof.Machine.execVlowActive feeder s
  | .vlowInactive feeder => Sys2Proof.Machine.execVlowInactive feeder s
  | .settleTimerExpiry feeder => Sys2Proof.Machine.execSettleTimerExpiry feeder s
  | .byteReceived byte stopBit => Sys2Proof.Machine.execByteReceived byte stopBit s

end Sys2Proof.Machine
end

