-- ==== Sys2Proof/Machine/Tick.lean ====
section
/-! DEFINITION. What happens while no command waits: a whole second passes (DESIGN CHOICE,
notes/assumptions 5). Every timer that runs
counts it (R103, R126, R144, R169), and each timer that runs out, each frame that has been sent, puts its command into
the queue, in a fixed order. A loss report that waits is taken, and then a boundary that a window end has made, before
any second passes (DESIGN CHOICE, notes/assumptions 24). -/

namespace Sys2Proof.Machine

/-- A count of seconds left, one second later. -/
def countDown (n : Nat) : Nat := n - 1

/-- A start phase one second later. -/
def StartPhase.tick : StartPhase → StartPhase
  | .ramp n => .ramp (countDown n)
  | .confirm n => .confirm (countDown n)

/-- A fan state one second later: the ramp or the confirm timer counts. -/
def FanState.tick : FanState → FanState
  | .starting d p => .starting d p.tick
  | .idle => .idle
  | .queued => .queued
  | .running d => .running d
  | .coasting => .coasting
  | .tripped => .tripped
  | .failed => .failed
  | .isolated => .isolated
  | .unpowered => .unpowered

/-- A fan one second later: the coast timer counts up to 600 (R103), the other timers count down. -/
def Fan.tick (f : Fan) : Fan :=
  { f with state := f.state.tick, coastTimer := min Config.coastTimerMax (f.coastTimer + 1),
           stuckTimer := f.stuckTimer.map countDown }

/-- A feeder one second later (R126). -/
def Feeder.tick (f : Feeder) : Feeder := { f with settleTimer := f.settleTimer.map countDown }

/-- The watchdog one second later (R169). -/
def Watchdog.tick : Watchdog → Watchdog
  | .stopped => .stopped
  | .counting n => .counting (n + 1)
  | .lost => .lost

/-- The state one second later, before the commands that the second brings are taken. The gap time of the framer grows
by 1000 ms (R160). -/
def State.secondPassed (s : State) : State :=
  { s with
    fans := s.fans.map Fan.tick
    feeders := s.feeders.map Feeder.tick
    air := { s.air with windowTimer := s.air.windowTimer.map (fun n => n + 1) }
    link := { s.link with gapMs := s.link.gapMs + 1000, watchdog := s.link.watchdog.tick } }

/-- The command of a fan's start timer that runs out in this second: before it the timer had one second left. -/
def startExpiry (i : Fin 64) : FanState → List Instr
  | .starting _ (.ramp 1) => [.rampTimerExpiry i]
  | .starting _ (.confirm 1) => [.confirmTimerExpiry i]
  | _ => []

/-- The commands of fan `i`'s timers that run out in this second. -/
def State.fanExpiries (s : State) (i : Fin 64) : List Instr :=
  if i.val < s.fanCount then
    let f := s.fan i
    (if f.coastTimer + 1 = s.coastTime i then [.coastTimerExpiry i] else [])
      ++ startExpiry i f.state
      ++ (if f.stuckTimer = some 1 then [.stuckRunningTimerExpiry i] else [])
  else []

/-- The command of feeder `n`'s settle timer, when it runs out in this second. -/
def State.feederExpiries (s : State) (n : Fin 4) : List Instr :=
  match s.feeders[n.val]? with
  | some f => if f.settleTimer = some 1 then [.settleTimerExpiry n] else []
  | none => []

/-- The command of the watchdog, when its count reaches the timeout in this second (R170). -/
def State.watchdogExpiries (s : State) : List Instr :=
  match s.link.watchdog with
  | .counting n => if n + 1 = s.linkTimeout then [.linkTimeout] else []
  | .stopped => []
  | .lost => []

/-- The HEALTH levels a window end reads when no command tells them: a line last seen active is active; whether one last
seen inactive has become active is a free value. -/
def State.sampledHealth (s : State) : BitVec 16 :=
  (s.air.channels.zipIdx.foldl (fun v p => if p.1.healthLine then v ||| (1#16 <<< p.2) else v) 0#16)
    ||| Config.freeHealthRegained s.freeIndex

/-- The command of the measurement-window timer, when it has counted W seconds in this second (R144). -/
def State.windowExpiries (s : State) : List Instr :=
  match s.air.windowTimer with
  | some n => if n + 1 = s.windowSeconds then [.windowEnd s.sampledHealth] else []
  | none => []

/-- The command of the gap time, when a frame is being collected or skipped: a second is more than 50 ms (R160). -/
def State.gapExpiries (s : State) : List Instr :=
  match s.link.framer with
  | .hunting => []
  | .collecting _ => [.frameGapTimeout]
  | .skipping => [.frameGapTimeout]

/-- The commands that one second brings: the frames waiting are sent (a full queue takes less than a second, spec/09
section 9.6), then the gap, the fans' timers, the feeders' timers, the watchdog, the window. -/
def State.expiries (s : State) : List Instr :=
  List.replicate s.link.tx.length .frameSent
    ++ s.gapExpiries
    ++ (List.finRange 64).flatMap s.fanExpiries
    ++ (List.finRange 4).flatMap s.feederExpiries
    ++ s.watchdogExpiries
    ++ s.windowExpiries

/-- A step of the block with no command waiting: the oldest loss report that waits is taken (R69; notes/assumptions 24),
or a boundary due is queued (R77), or a second passes. -/
def State.idle (s : State) : State :=
  if s.line.reports ≠ [] then s.takeReport.settle
  else if s.line.boundaryDue.isSome || s.line.overtaken then { s with pending := [.controlPeriodBoundary] }
  else
    { s.secondPassed with
      pending := s.expiries
      freeIndex := if s.windowExpiries.isEmpty then s.freeIndex else s.freeIndex + 1 }

end Sys2Proof.Machine
end

