-- ==== Sys2Proof/Safety.lean ====
section
/-! DEFINITION. What holds of the block between any two steps, in the terms of the manual: the invariants that the
claims name. Each is a property of one state; that every step keeps it is a claim. -/

namespace Sys2Proof.Machine

/-- A fan's outputs as R94 says: RUN is on exactly in STARTING and RUNNING, and DIR then stands at the running
direction. -/
def Fan.OutputsOk (f : Fan) : Prop :=
  (f.run = true ↔ f.state.dir?.isSome = true) ∧ (∀ d, f.state.dir? = some d → f.dirOut = d)

/-- Every fan's outputs are as R94 says. -/
def State.OutputsOk (s : State) : Prop := ∀ f ∈ s.fans, f.OutputsOk

/-- The stuck-running timer runs only while FB is active with RUN off, outside FAILED (R106). -/
def Fan.StuckTimerOk (f : Fan) : Prop := f.stuckTimer.isSome = true → f.fb = true ∧ f.run = false ∧ f.state ≠ .failed

/-- Every stuck-running timer is as R106 says. -/
def State.StuckTimersOk (s : State) : Prop := ∀ f ∈ s.fans, f.StuckTimerOk

/-- A fan's counts stay in the ranges of R92: the coast timer at most 600 s, the exposure at most 65,535 s. -/
def Fan.CountsOk (f : Fan) : Prop := f.coastTimer ≤ 600 ∧ f.exposure ≤ 65535

/-- Every coast time of the image in use is at most 600 s (R91). -/
def State.CoastTimesOk (s : State) : Prop := ∀ m, s.image = some m → ∀ f ∈ m.fans, f.coastTime ≤ 600

/-- Every fan's counts are in range, and so are the coast times they are held against (R91, R92). -/
def State.CountsOk (s : State) : Prop := s.CoastTimesOk ∧ ∀ f ∈ s.fans, f.CountsOk

/-- The control link as R162, R163 and R165 keep it: at most 8 frames and at most one ATTENTION in the transmit queue,
the counts in 16 bits. -/
def State.LinkOk (s : State) : Prop :=
  s.link.tx.length ≤ 8 ∧ s.link.tx.count .attention ≤ 1 ∧ s.link.goodFrames < 65536 ∧ s.link.crcErrors ≤ 65535
    ∧ s.link.discards ≤ 65535

/-- The event set never holds a masked kind (R174), and no ask is left over from an operation. -/
def State.EventsOk (s : State) : Prop := s.events.set &&& ~~~s.events.mask = 0#12 ∧ s.events.ask = false

/-- The line mode and what belongs to each mode: the scenario record is present exactly in FIRE (R5), the duty set is
empty outside FIRE (R51) and no loss report waits there (notes/assumptions 24), the loader is READING exactly in LOADING
(R181, R182), and LOAD_ERROR is on exactly in CONFIG_FAULT (R182). -/
def State.ModeOk (s : State) : Prop :=
  (s.line.mode = .fire ↔ s.line.scenario.isSome = true) ∧ (s.line.mode ≠ .fire → s.line.duty = [])
    ∧ (s.line.mode ≠ .fire → s.line.reports = [])
    ∧ (s.loader.load = .reading ↔ s.line.mode = .loading) ∧ (s.loader.loadError = true ↔ s.line.mode = .configFault)

/-- The line is in one of the two modes in which an image is in use for requests. -/
def LineMode.isOperating : LineMode → Bool
  | .normal | .fire => true
  | .loading | .configFault => false

/-- The control-period counter counts, the measurement-window timer runs and the watchdog is not STOPPED exactly in
NORMAL and FIRE (R2, R75, R144, R169). -/
def State.TimersOk (s : State) : Prop :=
  s.line.counting = s.line.mode.isOperating ∧ s.air.windowTimer.isSome = s.line.mode.isOperating
    ∧ (s.link.watchdog = .stopped ↔ s.line.mode.isOperating = false)

/-- The figures of a scenario record in their ranges (R5): vt and a pending target in 100..600, t in −8..+8, both counts
0 or 1, the train at most 1000 m. -/
def Scenario.InRange (sc : Scenario) : Prop :=
  (100 ≤ sc.target ∧ sc.target ≤ 600) ∧ (∀ v, sc.pendingTarget = some v → 100 ≤ v ∧ v ≤ 600)
    ∧ (-8 ≤ sc.trim ∧ sc.trim ≤ 8) ∧ sc.lowCount ≤ 1 ∧ sc.highCount ≤ 1 ∧ sc.trainLength ≤ 1000

/-- Every class target of the image in use is in 100..600, as the image check holds it (R7, R180). -/
def State.ClassTargetsOk (s : State) : Prop :=
  ∀ m, s.image = some m → ∀ k ∈ m.classes, 100 ≤ k.target ∧ k.target ≤ 600

/-- The scenario record's figures are in range, and so are the class targets they may come from (R5, R7, R80, R86). -/
def State.ScenarioOk (s : State) : Prop := s.ClassTargetsOk ∧ ∀ sc, s.line.scenario = some sc → sc.InRange

/-- No feeder has more fans starting than start slots (R134). -/
def State.SlotsOk (s : State) : Prop := ∀ n f, s.feeders[n]? = some f → f.startingCount ≤ s.slots n

/-- A READY feeder with an entry waiting has every slot taken: no entry waits on a free slot (R131, R134). -/
def State.GrantsOk (s : State) : Prop := ∀ n f, s.feeders[n]? = some f → f.state = .ready →
  f.startingCount < s.slots n → f.urgent = [] ∧ f.routine = []

/-- The duty set never holds a fan twice (R51), nor does the preference list (R5, R42). -/
def State.DutyOk (s : State) : Prop :=
  (s.line.duty.map (fun m => m.fan)).Nodup ∧ ∀ sc, s.line.scenario = some sc → sc.preference.Nodup

/-- A channel's counts stay in the ranges of R142. -/
def Channel.Ok (c : Channel) : Prop := c.pulseCount ≤ 65535 ∧ c.ring.length ≤ 4

/-- Every channel's counts are in range. -/
def State.AirOk (s : State) : Prop := ∀ c ∈ s.air.channels, c.Ok

/-- The records of the image in use fit together: a live record for each fan, feeder and channel of the image, and
every fan's feeder is one of the installed feeders (R91, R123, R141, R180). -/
def State.RecordsOk (s : State) : Prop :=
  (∀ m, s.image = some m → s.fans.length = m.fans.length ∧ s.feeders.length = m.feeders.length
    ∧ s.air.channels.length = m.channels.length ∧ ∀ f ∈ m.fans, f.feeder < m.feeders.length)
  ∧ (s.image = none → s.line.mode.isOperating = false ∧ s.feeders = [])

/-- The entries of one class group of a start queue (R129). -/
def Feeder.group (f : Feeder) : DemandClass → List QueueEntry
  | .urgent => f.urgent
  | .routine => f.routine

/-- Demands, queues and states fit together: a STARTING or RUNNING fan holds a run demand in its running direction
(R96); a fan is in a start queue exactly while it is QUEUED, once, in its own feeder's queue, with the direction and
class of its demand (R97, R129); an IDLE fan holds NONE (R97); each starting count is the number of the feeder's fans
in STARTING (R133); and outside NORMAL and FIRE every demand is NONE (R4). -/
structure State.QueuesOk (s : State) : Prop where
  running : ∀ i d, (s.fan i).state.dir? = some d → ∃ c, (s.fan i).demand = .run d c
  queued : ∀ i, (s.fan i).state = .queued → ∃ n f d c, s.feederOf i = some n ∧ s.feeders[n]? = some f
    ∧ (s.fan i).demand = .run d c ∧ { fan := i, dir := d } ∈ f.group c
  entries : ∀ n f c e, s.feeders[n]? = some f → e ∈ f.group c → s.feederOf e.fan = some n
    ∧ (s.fan e.fan).state = .queued ∧ (s.fan e.fan).demand = .run e.dir c
  once : ∀ f ∈ s.feeders, ((f.urgent ++ f.routine).map (fun e => e.fan)).Nodup
  idle : ∀ i, (s.fan i).state = .idle → (s.fan i).demand = .none
  starting : ∀ n f, s.feeders[n]? = some f →
    f.startingCount = ((s.fansOf n).filter (fun i => (s.fan i).state.isStarting)).length
  stopped : s.line.mode.isOperating = false → ∀ i, (s.fan i).demand = .none

/-- In FIRE the run demands are those of the members of the duty set: every member holds RUN in the active direction
with class URGENT and stands in a working state, unless the report of its loss still waits (R69; notes/assumptions 24),
and every other fan holds NONE (R53, R54); in NORMAL every run demand is ROUTINE (R95). With `State.QueuesOk` it follows that in FIRE a fan's RUN output is on only if the fan is a member,
and then in the active direction (R53). -/
structure State.MembersOk (s : State) : Prop where
  member : ∀ sc, s.line.scenario = some sc → ∀ i, s.isMember i = true →
    (s.fan i).demand = .run sc.direction .urgent ∧ ((s.fan i).state.isWorking = true ∨ i ∈ s.line.reports)
  others : s.line.mode = .fire → ∀ i, s.isMember i = false → (s.fan i).demand = .none
  routine : s.line.mode = .normal → ∀ i d c, (s.fan i).demand = .run d c → c = .routine

/-- The waiting time of R103: a fan that may be started next, or whose RUN output is on, has completed its coast. -/
def State.CoastsOk (s : State) : Prop :=
  ∀ i, ((s.fan i).state = .idle ∨ (s.fan i).state = .queued ∨ (s.fan i).state.dir?.isSome = true) →
    s.coastExpired i = true

/-! ### Frames: what a command leaves unchanged -/

/-- The request can be taken: the transmit queue has room (R163), and no ask for an ATTENTION is left over. -/
def State.CanTake (s : State) : Prop := s.link.tx.length < 8 ∧ s.events.ask = false

/-- The state after a frame has been taken whose request changes nothing but the link, answered with `r`: the good
frame count rises, wrapping, the watchdog restarts or resumes, and the reply is appended (R163, R164, R169). -/
def State.replied (s : State) (r : Reply) : State :=
  { s with link := { s.link with
      framer := .hunting, gapMs := 0, goodFrames := (s.link.goodFrames + 1) % 65536,
      watchdog := if s.link.watchdog = .stopped then .stopped else .counting 0, tx := s.link.tx ++ [r] } }

/-- A kind is in the event set unless it is masked (R174). -/
def EventLatch.Shows (e : EventLatch) (k : EventKind) : Prop := e.mask.getLsbD k.bit = true → e.set.getLsbD k.bit = true

/-- The history of a fan: what its demand, its queue and its start do not touch (R92, R93). -/
def Fan.SameHistory (f g : Fan) : Prop :=
  g.restartUsed = f.restartUsed ∧ g.lockout = f.lockout ∧ g.lastFault = f.lastFault ∧ g.exposure = f.exposure
    ∧ g.expired = f.expired ∧ g.fb = f.fb ∧ g.trip = f.trip ∧ g.iso = f.iso

/-- A scenario record without what an evaluation writes: required thrust, membership changed, shortfall (R56). -/
def Scenario.core (sc : Scenario) : Scenario := { sc with required := 0, membershipChanged := false, shortfall := false }

/-- The link without its transmit queue. -/
def ControlLink.core (l : ControlLink) : ControlLink := { l with tx := [] }

/-- What writing demands, granting starts and sizing the duty set leave unchanged: everything but the fans' states,
demands, outputs and timers, the start queues and starting counts, the duty set, the three scenario fields of an
evaluation, the event set, which may only grow, with the SHORTFALL condition, and the transmit queue. -/
structure State.FieldWork (s t : State) : Prop where
  pending : t.pending = s.pending
  image : t.image = s.image
  inputs : t.feederInputs = s.feederInputs
  air : t.air = s.air
  loader : t.loader = s.loader
  free : t.freeIndex = s.freeIndex
  mode : t.line.mode = s.line.mode
  counting : t.line.counting = s.line.counting
  windowCount : t.line.windowCount = s.line.windowCount
  boundaryDue : t.line.boundaryDue = s.line.boundaryDue
  overtaken : t.line.overtaken = s.line.overtaken
  reports : t.line.reports = s.line.reports
  scenario : t.line.scenario.map Scenario.core = s.line.scenario.map Scenario.core
  link : t.link.core = s.link.core
  mask : t.events.mask = s.events.mask
  levels : { t.events.levels with shortfall := false } = { s.events.levels with shortfall := false }
  grows : ∀ n, s.events.set.getLsbD n = true → t.events.set.getLsbD n = true
  fanCount : t.fans.length = s.fans.length
  history : ∀ i, (s.fan i).SameHistory (t.fan i)
  feeders : t.feeders.map (fun f => (f.state, f.settleTimer)) = s.feeders.map (fun f => (f.state, f.settleTimer))

/-- What the line controller's own operations (an activation, an update, a redirection, a stand down, a boundary) leave
unchanged: the queue of waiting commands, the image, the loader, the inputs and the field wiring of every fan, the
lockouts and last faults, the channels and the window timer, the feeders' states and settle timers, the link but for its
transmit queue, the event mask and the conditions other owners report; the event set may only grow. -/
structure State.LineWork (s t : State) : Prop where
  pending : t.pending = s.pending
  image : t.image = s.image
  inputs : t.feederInputs = s.feederInputs
  loader : t.loader = s.loader
  free : t.freeIndex = s.freeIndex
  counting : t.line.counting = s.line.counting
  channels : t.air.channels = s.air.channels
  windowTimer : t.air.windowTimer = s.air.windowTimer
  link : t.link.core = s.link.core
  mask : t.events.mask = s.events.mask
  levels : { t.events.levels with shortfall := false, feedbackLost := false } =
    { s.events.levels with shortfall := false, feedbackLost := false }
  grows : ∀ n, s.events.set.getLsbD n = true → t.events.set.getLsbD n = true
  fanCount : t.fans.length = s.fans.length
  history : ∀ i, (t.fan i).lockout = (s.fan i).lockout ∧ (t.fan i).lastFault = (s.fan i).lastFault
    ∧ (t.fan i).fb = (s.fan i).fb ∧ (t.fan i).trip = (s.fan i).trip ∧ (t.fan i).iso = (s.fan i).iso
  feeders : t.feeders.map (fun f => (f.state, f.settleTimer)) = s.feeders.map (fun f => (f.state, f.settleTimer))

/-- Of the fans other than `i`, none is changed but those that were QUEUED and have been granted their start (R98,
R134). -/
def State.OthersOnlyStart (s : State) (i : Nat) (t : State) : Prop :=
  ∀ j, j ≠ i → t.fan j = s.fan j ∨ (s.fan j).state = .queued ∧ ∃ d, t.fan j = (s.fan j).start d (s.startTime j)

/-! ### Start queues, grants and demands (R95 to R103, R129 to R134) -/

/-- The feeders, with that of fan `i` changed. -/
def State.feedersAt (s : State) (i : Nat) (f : Feeder → Feeder) : List Feeder :=
  match s.feederOf i with
  | some n => s.feeders.modify n f
  | none => s.feeders

/-- The entries that a consideration of feeder `n` grants (R129, R134): while the feeder is READY, as many heads of its
queue, the URGENT entries first, as slots are free. -/
def State.granted (s : State) (n : Nat) : List QueueEntry :=
  match s.feeders[n]? with
  | some f => (f.urgent ++ f.routine).take (if f.state = .ready then s.slots n - f.startingCount else 0)
  | none => []

/-- A grant has been considered on feeder `n` (R98, R134): the granted entries have left the queue and raised the
starting count, their fans have started in the entries' directions, and nothing else has changed. -/
structure State.GrantsMade (s : State) (n : Nat) (t : State) : Prop where
  state : t = { s with
    fans := t.fans
    feeders := s.feeders.modify n (fun f => { f with
      urgent := f.urgent.drop (s.granted n).length
      routine := f.routine.drop ((s.granted n).length - f.urgent.length)
      startingCount := f.startingCount + (s.granted n).length }) }
  fanCount : t.fans.length = s.fans.length
  fan : ∀ j, t.fan j = match (s.granted n).find? (fun e => decide (e.fan = j)) with
    | some e => if (s.fan j).state = .queued then { s.fan j with
        state := .starting e.dir (.ramp (s.startTime j)), dirOut := e.dir, run := true, stuckTimer := none } else s.fan j
    | none => s.fan j

/-- A grant has been considered on the feeder of fan `i`. -/
def State.GrantsFor (s : State) (i : Nat) (t : State) : Prop :=
  match s.feederOf i with
  | some n => s.GrantsMade n t
  | none => t = s

/-- Fan `i` enters QUEUED: its entry joins the end of its class group, and a grant is considered (R97, R130, R134). -/
def State.Joined (s : State) (i : Nat) (d : Direction) (c : DemandClass) (t : State) : Prop :=
  State.GrantsFor { s with
    fans := s.fans.modify i (fun f => { f with state := .queued })
    feeders := s.feedersAt i (fun g => match c with
      | .urgent => { g with urgent := g.urgent ++ [{ fan := i, dir := d }] }
      | .routine => { g with routine := g.routine ++ [{ fan := i, dir := d }] }) } i t

/-- Fan `i` has left STARTING: its slot is free again, and a grant is considered (R101, R133, R134). -/
def State.SlotFreed (s : State) (i : Nat) (t : State) : Prop :=
  State.GrantsFor { s with
    feeders := s.feedersAt i (fun g => { g with startingCount := g.startingCount - 1 }) } i t

/-- The entry of fan `i` leaves the queue from wherever it stands (R131). -/
def Feeder.without (g : Feeder) (i : Nat) : Feeder :=
  { g with urgent := g.urgent.filter (fun e => decide (e.fan ≠ i)),
           routine := g.routine.filter (fun e => decide (e.fan ≠ i)) }

/-- The standing entry of fan `i` takes a new demand (R97, R131): in the group of the demand's class it changes its
direction in place, from another group it moves to the end of that one. -/
def Feeder.retaken (g : Feeder) (i : Nat) (d : Direction) (c : DemandClass) : Feeder :=
  if i ∈ (g.group c).map (fun e => e.fan) then
    { g with urgent := g.urgent.map (fun e => if e.fan = i then { e with dir := d } else e),
             routine := g.routine.map (fun e => if e.fan = i then { e with dir := d } else e) }
  else match c with
    | .urgent => { g.without i with urgent := (g.without i).urgent ++ [{ fan := i, dir := d }] }
    | .routine => { g.without i with routine := (g.without i).routine ++ [{ fan := i, dir := d }] }

/-- The demand `d` has been written to fan `i` (R95, R96): what each state makes of it, and nothing else. -/
structure State.DemandWritten (s : State) (i : Nat) (d : Demand) (t : State) : Prop where
  same : (s.fan i).demand = d → t = s
  stored : (s.fan i).demand ≠ d →
    (s.fan i).state = .idle ∧ d = .none ∨ (s.fan i).state = .coasting ∨ (s.fan i).state.isHolding = true ∨
      (∃ x c, (s.fan i).state.dir? = some x ∧ d = .run x c) → t = s.modifyFan i (fun f => { f with demand := d })
  joins : (s.fan i).demand ≠ d → (s.fan i).state = .idle → ∀ x c, d = .run x c →
    (s.modifyFan i (fun f => { f with demand := d })).Joined i x c t
  leaves : (s.fan i).demand ≠ d → (s.fan i).state = .queued → d = .none → t =
    { s.modifyFan i (fun f => { f with state := .idle, demand := .none }) with
      feeders := s.feedersAt i (fun g => g.without i) }
  retakes : (s.fan i).demand ≠ d → (s.fan i).state = .queued → ∀ x c, d = .run x c → t =
    { s.modifyFan i (fun f => { f with demand := d }) with feeders := s.feedersAt i (fun g => g.retaken i x c) }
  stops : (s.fan i).demand ≠ d → ∀ x, (s.fan i).state = .running x → (∀ c, d ≠ .run x c) → t =
    s.modifyFan i (fun f => { f with
      demand := d, state := .coasting, run := false, coastTimer := 0
      stuckTimer := if f.fb then some s.feedbackAllowance else none })
  abandons : (s.fan i).demand ≠ d → ∀ x p, (s.fan i).state = .starting x p → (∀ c, d ≠ .run x c) →
    (s.modifyFan i (fun f => { f with
      demand := d, state := .coasting, run := false, coastTimer := 0
      stuckTimer := if f.fb then some s.feedbackAllowance else none })).SlotFreed i t

/-- The demands of a list have been written, one after another. -/
def State.DemandsWritten : List (Nat × Demand) → State → State → Prop
  | [], s, t => t = s
  | p :: ps, s, t => ∃ u, s.DemandWritten p.1 p.2 u ∧ State.DemandsWritten ps u t

/-! ### Holding states, losses and placings (R69, R106, R109, R113) -/

/-- A fan put into the holding state `dest` (R103, R106, R113): RUN off, with the coast timer from 0 and the
stuck-running timer by FB if it was on; with a cause, the last fault. The demand stays. -/
def Fan.heldIn (f : Fan) (dest : FanState) (cause : Option LastFault) (allowance : Nat) : Fan :=
  { f with
    state := dest
    lastFault := cause.getD f.lastFault
    run := false
    coastTimer := if f.run then 0 else f.coastTimer
    stuckTimer := if dest = .failed then none
      else if f.run then (if f.fb then some allowance else none) else f.stuckTimer }

/-- What the fan supervisor does at an entry of fan `i` to the holding state `dest` before it reports the loss (R113,
steps 1 to 3; R105, R106): the fan held; its queue entry removed, or its start slot freed and a grant considered; with
TRIPPED and FAILED, FAN_FAULT. -/
structure State.Held (s : State) (i : Nat) (dest : FanState) (cause : Option LastFault) (u : State) : Prop where
  work : State.FieldWork (s.modifyFan i (fun f => { f with lastFault := cause.getD f.lastFault })) u
  line : u.line = s.line
  link : u.link = s.link
  levels : u.events.levels = s.events.levels
  fan : i < s.fanCount → u.fan i = (s.fan i).heldIn dest cause s.feedbackAllowance
  others : s.OthersOnlyStart i u
  fault : dest = .tripped ∨ dest = .failed → u.events.Shows .fanFault
  noFault : dest ≠ .tripped → dest ≠ .failed → u.events = s.events
  kinds : ∀ k : EventKind, k ≠ .fanFault → u.events.set.getLsbD k.bit = s.events.set.getLsbD k.bit
  entry : (s.fan i).state = .queued → u.feeders = s.feedersAt i (fun g => g.without i)
  slot : (s.fan i).state.isStarting = true → ∃ v,
    (s.modifyFan i (fun f => f.heldIn dest cause s.feedbackAllowance)).SlotFreed i v ∧ u.fans = v.fans ∧
      u.feeders = v.feeders
  fans : (s.fan i).state.isStarting = false →
    u.fans = s.fans.modify i (fun f => f.heldIn dest cause s.feedbackAllowance)
  rest : (s.fan i).state ≠ .queued → (s.fan i).state.isStarting = false → u.feeders = s.feeders

/-- The event latch `e'` is `e` with the two feeder conditions taken afresh from `feeders`: a condition that becomes
true is latched unless masked, and no other kind changes (R136, R174). -/
structure EventLatch.FeederLevels (e : EventLatch) (feeders : List Feeder) (e' : EventLatch) : Prop where
  mask : e'.mask = e.mask
  levels : e'.levels = { e.levels with
    feederHold := feeders.any (fun g => decide (g.state = .hold ∨ g.state = .settling))
    feederDead := feeders.any (fun g => decide (g.state = .dead)) }
  hold : e'.set.getLsbD EventKind.feederHold.bit = (e.set.getLsbD EventKind.feederHold.bit ||
    (e.mask.getLsbD EventKind.feederHold.bit && !e.levels.feederHold && e'.levels.feederHold))
  dead : e'.set.getLsbD EventKind.feederDead.bit = (e.set.getLsbD EventKind.feederDead.bit ||
    (e.mask.getLsbD EventKind.feederDead.bit && !e.levels.feederDead && e'.levels.feederDead))
  kinds : ∀ k : EventKind, k ≠ .feederHold → k ≠ .feederDead → e'.set.getLsbD k.bit = e.set.getLsbD k.bit

/-- The event latch `e'` is `e` after an activation, an update or a redirection has formed vm, with FEEDBACK_LOST
holding or not, and has moved fans into or out of the duty set or not: the condition, when it becomes true, and a move
are latched unless masked, and no other kind changes (R65, R88, R153, R174). -/
structure EventLatch.Formed (e : EventLatch) (lost moved : Bool) (e' : EventLatch) : Prop where
  mask : e'.mask = e.mask
  levels : e'.levels = { e.levels with feedbackLost := lost }
  feedback : e'.set.getLsbD EventKind.feedbackLost.bit = (e.set.getLsbD EventKind.feedbackLost.bit ||
    (e.mask.getLsbD EventKind.feedbackLost.bit && !e.levels.feedbackLost && lost))
  duty : e'.set.getLsbD EventKind.dutyChange.bit = (e.set.getLsbD EventKind.dutyChange.bit ||
    (e.mask.getLsbD EventKind.dutyChange.bit && moved))
  kinds : ∀ k : EventKind, k ≠ .feedbackLost → k ≠ .dutyChange → e'.set.getLsbD k.bit = e.set.getLsbD k.bit

/-- The line, the fans, the feeders and the event set are as the evaluation of `u` leaves them. -/
structure State.EvaluatedFrom (u t : State) : Prop where
  line : t.line = u.evaluate.line
  fans : t.fans = u.evaluate.fans
  feeders : t.feeders = u.evaluate.feeders
  set : t.events.set = u.evaluate.events.set
  mask : t.events.mask = u.evaluate.events.mask
  levels : t.events.levels = u.evaluate.events.levels

/-- Fan `i` leaves the duty set: its member record is gone, membership changed is yes, DUTY_CHANGE is raised and its
demand is written NONE, which a fan in a holding state only stores; nothing else changes (R54, R65, R96). -/
structure State.Departed (u : State) (i : Nat) (w : State) : Prop where
  written : State.DemandWritten { u with
    line := { u.line with
      duty := u.line.duty.filter (fun x => decide (x.fan ≠ i))
      scenario := u.line.scenario.map (fun sc => { sc with membershipChanged := true }) }
    events := w.events } i .none w
  mask : w.events.mask = u.events.mask
  levels : w.events.levels = u.events.levels
  dutyChange : w.events.Shows .dutyChange
  kinds : ∀ k : EventKind, k ≠ .dutyChange → w.events.set.getLsbD k.bit = u.events.set.getLsbD k.bit

/-- What the line controller makes of the report that fan `i` is lost (R69): a member leaves the duty set and the line
is evaluated at once; for another fan nothing changes. -/
structure State.LossTaken (u : State) (i : Nat) (t : State) : Prop where
  work : State.FieldWork u t
  member : u.isMember i = true → ∃ w, u.Departed i w ∧ w.EvaluatedFrom t
  other : u.isMember i = false → t.line = u.line ∧ t.fans = u.fans ∧ t.feeders = u.feeders ∧
    t.events.set = u.events.set ∧ t.events.mask = u.events.mask ∧ t.events.levels = u.events.levels

/-- The report of a loss of fan `i` waits behind those that wait already, if it may wait and the fan is a member. -/
def State.awaiting (u : State) (i : Nat) (waits : Bool) : State :=
  { u with line := { u.line with reports := u.line.reports ++ if u.isMember i && waits then [i] else [] } }

/-- What becomes of the report that fan `i` is lost (R69, R113): it is taken at once; or, where it may wait, that of a
member waits, and no more than that has changed (notes/assumptions 24). -/
structure State.Reported (u : State) (i : Nat) (waits : Bool) (t : State) : Prop where
  taken : waits = false ∨ u.isMember i = false → u.LossTaken i t
  waiting : waits = true → u.isMember i = true → State.FieldWork (u.awaiting i true) t ∧
    t.line = { u.line with reports := u.line.reports ++ [i] } ∧ t.fans = u.fans ∧ t.feeders = u.feeders ∧
    t.events.set = u.events.set ∧ t.events.mask = u.events.mask ∧ t.events.levels = u.events.levels

/-- Fan `i`, leaving a holding state, has been placed in the first of the five states that applies (R109). -/
structure State.Placed (s : State) (i : Nat) (t : State) : Prop where
  isolated : (s.fan i).iso = true ∨ (s.fan i).lockout = true → ∃ u, s.Held i .isolated none u ∧ u.LossTaken i t
  unpowered : (s.fan i).iso = false → (s.fan i).lockout = false → s.onDeadFeeder i = true →
    ∃ u, s.Held i .unpowered none u ∧ u.LossTaken i t
  faulted : (s.fan i).iso = false → (s.fan i).lockout = false → s.onDeadFeeder i = false → (s.fan i).trip = true →
    ∃ u, s.Held i (if (s.fan i).restartUsed then .failed else .tripped) (some .trip) u ∧ u.LossTaken i t
  coasting : (s.fan i).iso = false → (s.fan i).lockout = false → s.onDeadFeeder i = false → (s.fan i).trip = false →
    (s.fan i).coastTimer < s.coastTime i → t = s.modifyFan i (fun f => { f with state := .coasting })
  idle : (s.fan i).iso = false → (s.fan i).lockout = false → s.onDeadFeeder i = false → (s.fan i).trip = false →
    s.coastTime i ≤ (s.fan i).coastTimer → (s.fan i).demand = .none →
    t = s.modifyFan i (fun f => { f with state := .idle })
  queued : (s.fan i).iso = false → (s.fan i).lockout = false → s.onDeadFeeder i = false → (s.fan i).trip = false →
    s.coastTime i ≤ (s.fan i).coastTimer → ∀ d c, (s.fan i).demand = .run d c → s.Joined i d c t

/-- vm as R10 and R151 give it in FIRE: the mean, toward zero, of the velocities of the valid channels on the cold side,
each taken in the active direction; unavailable when there is none. -/
def coldSideVm (channels : List Channel) (m : LineImage) (sc : Scenario) : Option Int :=
  let cold := fun (x : Nat) => match sc.direction with
    | .forward => decide (x < sc.windowLow ∧ x < sc.chainage)
    | .reverse => decide (sc.windowHigh < x ∧ sc.chainage < x)
  let figures := ((channels.zip m.channels).filter (fun p => cold p.2.chainage)).filterMap
    (fun p => p.1.velocity.map (fun v => if sc.direction = .forward then v else -v))
  if figures = [] then none else some (figures.sum.tdiv figures.length)

/-! ### The line before its evaluation, at an ACTIVATE_FIRE (R11 to R15) -/

/-- The fans on the list that are STARTING or RUNNING in the active direction, in list order (R13, R66). -/
def State.initialOf (s : State) (sc : Scenario) : List Nat :=
  sc.preference.filter (fun i => decide ((s.fan i).state.dir? = some sc.direction))

/-- The member records of fans that join as INITIAL: their counted thrust is not yet formed (R13, R29, R66). -/
def State.initialMembers (s : State) (initial : List Nat) : List Member :=
  initial.map (fun i => { fan := i, reason := .initial, counted := 0, expired := (s.fan i).expired })

/-- What an activation makes of fan `i` before the evaluation. A fan that joins as INITIAL keeps its run under the
member's demand (R13); a QUEUED one is IDLE (R11, R132); any other with RUN on coasts (R12, R103, R106); a TRIPPED fan
due for its one restart is placed (R108, R109, R114); every other holds NONE. -/
def State.fanAtFire (s : State) (initial : List Nat) (d : Direction) (i : Nat) : Fan :=
  let f := s.fan i
  if i ∈ initial then { f with demand := .run d .urgent }
  else if f.state = .queued then { f with state := .idle, demand := .none }
  else if f.state.dir?.isSome = true then { f with
    state := .coasting, demand := .none, run := false, coastTimer := 0
    stuckTimer := if f.fb then some s.feedbackAllowance else none }
  else if f.state = .tripped ∧ f.restartUsed = false ∧ f.trip = false ∧ s.coastTime i ≤ f.coastTimer then { f with
    state := if f.iso = true ∨ f.lockout = true then .isolated else if s.onDeadFeeder i then .unpowered else .idle
    demand := .none, restartUsed := true }
  else { f with demand := .none }

/-- `u` is the line that an activation in `s` evaluates, `sc` being the scenario record then on the line (R11 to R13):
the record newly created, vm formed under it, the INITIAL members, every fan as `State.fanAtFire` says, the queues
empty, and each starting count the number of the feeder's fans still in STARTING. -/
structure State.FireEntered (s : State) (m : LineImage) (sc : Scenario) (u : State) : Prop where
  state : u = { s with
    line := { s.line with
      mode := .fire
      scenario := some { sc with required := 0, membershipChanged := !(s.initialOf sc).isEmpty, shortfall := false }
      duty := s.initialMembers (s.initialOf sc) }
    air := { s.air with vm := coldSideVm s.air.channels m sc }
    fans := u.fans, feeders := u.feeders, events := u.events, link := u.link }
  fanCount : u.fanCount = s.fanCount
  fan : ∀ i, i < s.fanCount → u.fan i = s.fanAtFire (s.initialOf sc) sc.direction i
  feeders : ∀ n, u.feeders[n]? = (s.feeders[n]?).map (fun (g : Feeder) => { g with
    urgent := [], routine := []
    startingCount := ((s.fansOf n).filter (fun i => (u.fan i).state.isStarting)).length })
  events : s.events.Formed (coldSideVm s.air.channels m sc).isNone (!(s.initialOf sc).isEmpty) u.events

/-- `u` is the line that an update in `s` evaluates (R14, R68): the record with its new figures, the stored results as
they stood, vm formed under it, and without the members that are off the list, which hold NONE. That NONE is written to
them one after another in join order is DEDUCED, as R67 says it of a redirection only (notes/assumptions 10). -/
structure State.FireUpdated (s : State) (m : LineImage) (old sc : Scenario) (u : State) : Prop where
  state : u = { s with
    line := { s.line with
      scenario := some { sc with
        required := old.required
        membershipChanged := old.membershipChanged || s.line.duty.any (fun x => !sc.preference.contains x.fan)
        shortfall := old.shortfall }
      duty := s.line.duty.filter (fun x => sc.preference.contains x.fan) }
    air := { s.air with vm := coldSideVm s.air.channels m sc }
    fans := u.fans, feeders := u.feeders, events := u.events, link := u.link }
  written : ∃ w, State.DemandsWritten
    ((s.line.duty.filter (fun x => !sc.preference.contains x.fan)).map (fun x => (x.fan, .none))) s w ∧
      u.fans = w.fans ∧ u.feeders = w.feeders
  events : s.events.Formed (coldSideVm s.air.channels m sc).isNone
    (s.line.duty.any (fun x => !sc.preference.contains x.fan)) u.events

/-- `u` is the line that a redirection in `s` evaluates (R15, R66, R67): the record with its new figures, the stored
results as they stood, vm formed under it, every member gone in join order, holding NONE, which leaves the fans as in
`w`, and then the fans that run in the new direction joined as INITIAL. -/
structure State.FireRedirected (s : State) (m : LineImage) (old sc : Scenario) (w u : State) : Prop where
  written : State.DemandsWritten (s.line.duty.map (fun x => (x.fan, .none))) s w
  state : u = { s with
    line := { s.line with
      scenario := some { sc with
        required := old.required
        membershipChanged := old.membershipChanged || !s.line.duty.isEmpty || !(w.initialOf sc).isEmpty
        shortfall := old.shortfall }
      duty := s.initialMembers (w.initialOf sc) }
    air := { s.air with vm := coldSideVm s.air.channels m sc }
    fans := u.fans, feeders := u.feeders, events := u.events, link := u.link }
  joined : ∃ v, State.DemandsWritten ((w.initialOf sc).map (fun i => (i, .run sc.direction .urgent))) w v ∧
    u.fans = v.fans ∧ u.feeders = v.feeders
  events : s.events.Formed (coldSideVm s.air.channels m sc).isNone
    (!s.line.duty.isEmpty || !(w.initialOf sc).isEmpty) u.events

/-- The transmit queue is `tx`, or `tx` with one ATTENTION behind it (R166). -/
def State.Sends (t : State) (tx : List Reply) : Prop := t.link.tx = tx ∨ t.link.tx = tx ++ [.attention]

/-- The payload lengths each request allows (the table of spec/09 section 9.6). -/
def allowedLengths (type : Byte) : List Nat :=
  if type ∈ [0x03#8, 0x06#8, 0x12#8, 0x21#8, 0x22#8] then [1]
  else if type ∈ [0x09#8, 0x11#8, 0x20#8] then [2]
  else if type = 0x10#8 then [6, 8]
  else [0]

/-- Commands executed one after another, as long as each gives a next state. -/
def execAll : List Instr → State → Host.Outcome State Fault Refusal
  | [], s => .next s
  | c :: cs, s =>
    match exec c s with
    | .next t => execAll cs t
    | .fault f => .fault f
    | .refused r => .refused r

end Sys2Proof.Machine
end

