-- ==== Sys2Proof/Certificates/Slice0/Obligations.lean ====
section
/-! DEFINITION. The statements for the provers. Each docstring names the rules of spec/ it rests on; a clause that is
the model's own choice says so and names its log entry. -/

section

open Sys2Proof Sys2Proof.Machine

/-! ### The step -/

/-- A step takes the command at the front of the queue and executes it on the state with the rest of the queue (the
block's form of "a step runs the decoded instruction"). -/
def Obligations.StepTakesFrontCommand : Prop :=
  ∀ (s : State) (c : Instr) (rest : List Instr), s.pending = c :: rest → step s = exec c { s with pending := rest }

/-- With no command waiting, the oldest loss report that waits is taken: a member leaves the duty set and the line is
evaluated at once, and the report of no member changes nothing (R54, R56, R69). With none, a boundary that is due or
overtaken is queued; otherwise one whole second passes: every running timer counts it (R103, R126, R144, R169), and the
queue then holds the command of a timer exactly when that timer runs out in this second. That a waiting report is taken
when no command waits is the model's choice (notes/assumptions 24), and so is that idling passes a second, and whole
seconds only (notes/assumptions 5). -/
def Obligations.IdleStepPassesOneSecond : Prop :=
  ∀ s : State, s.pending = [] →
    (∀ i rest, s.line.reports = i :: rest → ∃ t, step s = .next t ∧ t.pending = [] ∧ t.Sends s.link.tx ∧
      State.LossTaken { s with line := { s.line with reports := rest } } i t) ∧
    (s.line.reports = [] → s.line.boundaryDue ≠ none ∨ s.line.overtaken = true →
      step s = .next { s with pending := [.controlPeriodBoundary] }) ∧
    (s.line.reports = [] → s.line.boundaryDue = none → s.line.overtaken = false → ∃ t, step s = .next t ∧
      t.line = s.line ∧ t.image = s.image ∧ t.events = s.events ∧ t.loader = s.loader ∧
      t.feederInputs = s.feederInputs ∧ t.fanCount = s.fanCount ∧ t.air.channels = s.air.channels ∧
      t.air.vm = s.air.vm ∧ t.link = { s.link with gapMs := s.link.gapMs + 1000, watchdog := t.link.watchdog } ∧
      t.feeders = s.feeders.map (fun f => { f with settleTimer := f.settleTimer.map (fun n => n - 1) }) ∧
      (∀ i, i < s.fanCount → ∃ state, t.fan i = { s.fan i with
          state := state
          coastTimer := min 600 ((s.fan i).coastTimer + 1)
          stuckTimer := (s.fan i).stuckTimer.map (fun n => n - 1) } ∧
        (∀ d n, (s.fan i).state = .starting d (.ramp n) → state = .starting d (.ramp (n - 1))) ∧
        (∀ d n, (s.fan i).state = .starting d (.confirm n) → state = .starting d (.confirm (n - 1))) ∧
        ((∀ d p, (s.fan i).state ≠ .starting d p) → state = (s.fan i).state)) ∧
      (∀ i : Fin 64, i.val < s.fanCount →
        (Instr.coastTimerExpiry i ∈ t.pending ↔ (s.fan i).coastTimer + 1 = s.coastTime i) ∧
        (Instr.rampTimerExpiry i ∈ t.pending ↔ ∃ d, (s.fan i).state = .starting d (.ramp 1)) ∧
        (Instr.confirmTimerExpiry i ∈ t.pending ↔ ∃ d, (s.fan i).state = .starting d (.confirm 1)) ∧
        (Instr.stuckRunningTimerExpiry i ∈ t.pending ↔ (s.fan i).stuckTimer = some 1)) ∧
      (∀ n : Fin 4, ∀ f, s.feeders[n.val]? = some f →
        (Instr.settleTimerExpiry n ∈ t.pending ↔ f.settleTimer = some 1)) ∧
      (∀ n, s.air.windowTimer = some n → t.air.windowTimer = some (n + 1) ∧
        ((∃ h, Instr.windowEnd h ∈ t.pending) ↔ n + 1 = s.windowSeconds)) ∧
      (∀ n, s.link.watchdog = .counting n → t.link.watchdog = .counting (n + 1) ∧
        (Instr.linkTimeout ∈ t.pending ↔ n + 1 = s.linkTimeout)) ∧
      (s.link.watchdog = .stopped ∨ s.link.watchdog = .lost → t.link.watchdog = s.link.watchdog))

/-- Every command completes in every state, and none touches the queue of commands that wait: the part never stops
(spec/00 section 1.2: each behaviour is started by an event, and none ends it). -/
def Obligations.EveryCommandCompletes : Prop :=
  ∀ (c : Instr) (s : State), ∃ t, exec c s = .next t ∧ t.pending = s.pending

/-! ### Invariants -/

/-- Every invariant below holds right after a full reset. -/
def Obligations.InvariantsHoldAtReset : Prop :=
  State.reset.OutputsOk ∧ State.reset.StuckTimersOk ∧ State.reset.CountsOk ∧ State.reset.LinkOk ∧
  State.reset.EventsOk ∧ State.reset.ModeOk ∧ State.reset.TimersOk ∧ State.reset.ScenarioOk ∧
  State.reset.SlotsOk ∧ State.reset.GrantsOk ∧ State.reset.DutyOk ∧ State.reset.AirOk ∧ State.reset.RecordsOk ∧
  State.reset.QueuesOk ∧ State.reset.MembersOk ∧ State.reset.CoastsOk

/-- A fan's RUN output is on only while the fan is in STARTING or RUNNING, and DIR then stands at the running direction
(R94); the stuck-running timer runs only while FB is active with RUN off, outside FAILED (R106): every step keeps
both. -/
def Obligations.StepKeepsOutputs : Prop :=
  ∀ s t : State, step s = .next t → (s.OutputsOk → t.OutputsOk) ∧ (s.StuckTimersOk → t.StuckTimersOk)

/-- The coast timers and exposure counts stay in their ranges (R71, R92, R103), a channel's pulse count stays in 16 bits
and its ring within four samples (R142, R145, R149): every step keeps both. -/
def Obligations.StepKeepsCounts : Prop :=
  ∀ s t : State, step s = .next t → (s.CountsOk → t.CountsOk) ∧ (s.AirOk → t.AirOk)

/-- The transmit queue holds at most 8 frames and at most one ATTENTION, the link counts stay in 16 bits (R162, R163,
R165); the event set never holds a masked kind (R174), and no ask for an ATTENTION outlives its operation (R166): every
step keeps both. -/
def Obligations.StepKeepsLink : Prop :=
  ∀ s t : State, step s = .next t → (s.LinkOk → t.LinkOk) ∧ (s.EventsOk → t.EventsOk)

/-- The scenario record is present exactly in FIRE, the duty set is empty outside FIRE and no loss report waits there
(the model's choice: notes/assumptions 24), a load is in progress exactly in LOADING, LOAD_ERROR is on exactly in
CONFIG_FAULT (R5, R51, R181, R182); the control-period counter, the
measurement-window timer and the watchdog run exactly in NORMAL and FIRE (R2, R75, R144, R169): every step keeps it. -/
def Obligations.StepKeepsMode : Prop :=
  ∀ s t : State, s.ModeOk → step s = .next t → t.ModeOk ∧ (s.TimersOk → t.TimersOk)

/-- In FIRE vt and a pending target lie in 100..600 cm/s, t in −8..+8, both counts are 0 or 1, the train is at most
1000 m long (R5, R7, R80, R86): every step keeps it. -/
def Obligations.StepKeepsScenario : Prop :=
  ∀ s t : State, s.ScenarioOk → step s = .next t → t.ScenarioOk

/-- No feeder's starting count exceeds its start slots (R134), and a READY feeder with an entry waiting has every start
slot taken (R131, R134): every step keeps both. -/
def Obligations.StepKeepsSlots : Prop :=
  ∀ s t : State, step s = .next t → (s.SlotsOk → t.SlotsOk) ∧
    (s.ModeOk → s.RecordsOk → s.QueuesOk → s.GrantsOk → t.GrantsOk)

/-- The duty set and the preference list never hold a fan twice (R5, R51): every step keeps it. -/
def Obligations.StepKeepsDuty : Prop :=
  ∀ s t : State, s.DutyOk → step s = .next t → t.DutyOk

/-- The live records fit the image in use (R91, R121, R123, R141, R180): every step keeps it. -/
def Obligations.StepKeepsRecords : Prop :=
  ∀ s t : State, s.ModeOk → s.RecordsOk → step s = .next t → t.RecordsOk

/-- Demands, start queues and fan states fit together (R4, R96, R97, R129, R133): every step keeps it. -/
def Obligations.StepKeepsQueues : Prop :=
  ∀ s t : State, s.ModeOk → s.RecordsOk → s.QueuesOk → step s = .next t → t.QueuesOk

/-- In FIRE exactly the members of the duty set hold a run demand, in the active direction with class URGENT, and they
stand in working states but for a member whose loss report still waits (R53, R54, R57, R69; notes/assumptions 24); in
NORMAL every run demand is ROUTINE (R95): every step keeps it. -/
def Obligations.StepKeepsMembers : Prop :=
  ∀ s t : State, s.ModeOk → s.RecordsOk → s.QueuesOk → s.DutyOk → s.MembersOk → step s = .next t → t.MembersOk

/-- No fan is started before its coast time has passed since RUN last turned off (R103): every step keeps it. -/
def Obligations.StepKeepsCoasts : Prop :=
  ∀ s t : State, s.ModeOk → s.RecordsOk → s.QueuesOk → s.CountsOk → s.CoastsOk → step s = .next t → t.CoastsOk

/-! ### Reset, load and reload (Chapter 11) -/

/-- A full reset in any state leaves the values that R1, R75, R120, R124, R138, R157, R171, R178, R181 and R184 give.
The queue of waiting commands and the index of free values are the model's own and stay (notes/assumptions 4, 15). -/
def Obligations.FullResetClearsEverything : Prop :=
  ∀ s : State, ∃ t, exec .fullReset s = .next t ∧ t.pending = s.pending ∧ t.freeIndex = s.freeIndex ∧
    t.image = none ∧ t.line.mode = .loading ∧ t.line.scenario = none ∧ t.line.duty = [] ∧
    t.line.counting = false ∧ t.line.windowCount = 0 ∧ t.line.boundaryDue = none ∧ t.line.overtaken = false ∧
    t.line.reports = [] ∧ t.fanCount = 64 ∧ (∀ i, i < 64 → t.fan i = Fan.afterReset ∧ (t.fan i).state = .coasting ∧
      (t.fan i).coastTimer = 0 ∧ (t.fan i).demand = .none ∧ (t.fan i).run = false ∧ (t.fan i).dirOut = .forward ∧
      (t.fan i).lockout = false ∧ (t.fan i).restartUsed = false ∧ (t.fan i).expired = false ∧
      (t.fan i).lastFault = .none ∧ (t.fan i).exposure = 0 ∧ (t.fan i).fb = false ∧ (t.fan i).trip = false ∧
      (t.fan i).iso = false ∧ (t.fan i).stuckTimer = none ∧ t.coastTime i = 600) ∧
    t.feeders = [] ∧ (∀ n, n < 4 → (t.inputs n).avail = false ∧ (t.inputs n).vlow = false) ∧
    t.air.channels = [] ∧ t.air.vm = none ∧ t.air.windowTimer = none ∧
    t.link.framer = .hunting ∧ t.link.tx = [] ∧ t.link.goodFrames = 0 ∧ t.link.crcErrors = 0 ∧ t.link.discards = 0 ∧
    t.link.watchdog = .stopped ∧
    t.loader.load = .reading ∧ t.loader.fault = .none ∧ t.loader.loadError = false ∧ t.loader.reloadInput = false ∧
    (∀ k : EventKind, t.events.set.getLsbD k.bit = false ∧ t.events.mask.getLsbD k.bit = true) ∧
    t.events.levels = Levels.allFalse

/-- A good load installs the image's records, sets each feeder by its inputs, every demand then being NONE with an empty
queue and a starting count of 0 (R138), begins every channel's first window
(R145), enters NORMAL and starts the three timers (R2, R182). -/
def Obligations.GoodLoadEntersNormal : Prop :=
  ∀ (s : State) (m : LineImage) (memory : List Byte) (dir health : BitVec 16),
    s.loader.load = .reading → s.ModeOk → s.events.ask = false → loadImage memory = .ok m →
    ∃ t, exec (.loadEnd memory dir health) s = .next t ∧ t.image = some m ∧ t.line.mode = .normal ∧
      t.line.scenario = none ∧ t.line.duty = [] ∧ t.line.counting = true ∧ t.line.windowCount = 0 ∧
      t.line.boundaryDue = none ∧ t.line.overtaken = false ∧ t.line.reports = [] ∧
      t.link.watchdog = .counting 0 ∧ t.air.windowTimer = some 0 ∧ t.air.vm = none ∧
      t.loader = { s.loader with load := .idle, fault := .none, loadError := false } ∧
      t.pending = s.pending ∧ t.feederInputs = s.feederInputs ∧ t.events.mask = s.events.mask ∧
      t.Sends s.link.tx ∧ t.link.core = { s.link.core with watchdog := .counting 0 } ∧ t.freeIndex = s.freeIndex ∧
      t.events.levels = { s.events.levels with
        feederHold := t.feeders.any (fun g => decide (g.state = .hold ∨ g.state = .settling))
        feederDead := t.feeders.any (fun g => decide (g.state = .dead)) } ∧
      t.fanCount = m.fans.length ∧ t.feederCount = m.feeders.length ∧
      (∀ n f, m.feeders[n]? = some f → ∃ g, t.feeders[n]? = some g ∧
        ((s.inputs n).avail = false → g.state = .dead ∧ g.settleTimer = none) ∧
        ((s.inputs n).avail = true → (s.inputs n).vlow = true → g.state = .hold ∧ g.settleTimer = none) ∧
        ((s.inputs n).avail = true → (s.inputs n).vlow = false →
          g.state = .settling ∧ g.settleTimer = some f.settleTime)) ∧
      ((∀ i, i < m.fans.length → (s.fan i).demand = .none) →
        ∀ g ∈ t.feeders, g.urgent = [] ∧ g.routine = [] ∧ g.startingCount = 0) ∧
      (∀ i f, m.fans[i]? = some f → let inp := s.inputs f.feeder
        (t.fan i).lockout = (s.fan i).lockout ∧ (t.fan i).restartUsed = (s.fan i).restartUsed ∧
        (t.fan i).exposure = (s.fan i).exposure ∧ (t.fan i).expired = (s.fan i).expired ∧
        (t.fan i).fb = (s.fan i).fb ∧ (t.fan i).trip = (s.fan i).trip ∧ (t.fan i).iso = (s.fan i).iso ∧
        ((s.fan i).demand = .none → (s.fan i).run = false → (t.fan i).demand = .none ∧ (t.fan i).run = false ∧
          (t.fan i).coastTimer = (s.fan i).coastTimer ∧
          ((s.fan i).state ∈ [.idle, .coasting, .isolated, .unpowered] →
            (t.fan i).state =
              if (s.fan i).iso ∨ (s.fan i).lockout then .isolated
              else if inp.avail = false then .unpowered
              else if (s.fan i).trip then (if (s.fan i).restartUsed then .failed else .tripped)
              else if f.coastTime ≤ (s.fan i).coastTimer then .idle else .coasting) ∧
          ((s.fan i).state = .tripped → (t.fan i).state = if inp.avail = false then .unpowered else .tripped) ∧
          ((s.fan i).state = .failed → (t.fan i).state = .failed))) ∧
      t.air.channels.length = m.channels.length ∧
      (∀ n c, t.air.channels[n]? = some c → c.pulseCount = 0 ∧ c.dirChanged = false ∧
        c.startDir = (if dir.getLsbD n then .reverse else .forward) ∧ c.healthLost = !health.getLsbD n ∧
        c.ring = [] ∧ c.velocity = none)

/-- A failed load stores its cause, turns LOAD_ERROR on and enters CONFIG_FAULT; everything else stays in use (R182).
With no load in progress a load cannot end: nothing changes (notes/assumptions 2). -/
def Obligations.FailedLoadEntersConfigFault : Prop :=
  ∀ (s : State) (memory : List Byte) (dir health : BitVec 16),
    (∀ cause, s.loader.load = .reading → loadImage memory = .error cause →
      exec (.loadEnd memory dir health) s = .next { s with
        line := { s.line with mode := .configFault },
        loader := { s.loader with load := .idle, fault := cause, loadError := true } }) ∧
    (s.loader.load = .idle → exec (.loadEnd memory dir health) s = .next s)

/-- Every image that a load accepts has its counts and its fields in the ranges of R180, and its references hold. -/
def Obligations.LoadedImageIsInRange : Prop :=
  ∀ (memory : List Byte) (m : LineImage), loadImage memory = .ok m →
    (1 ≤ m.fans.length ∧ m.fans.length ≤ 64) ∧ m.channels.length ≤ 16 ∧
    (1 ≤ m.feeders.length ∧ m.feeders.length ≤ 4) ∧ m.plans.length ≤ 32 ∧ m.classes.length = 4 ∧
    (500 ≤ m.tunnel.length ∧ m.tunnel.length ≤ 30000) ∧
    (200 ≤ m.tunnel.crossSection ∧ m.tunnel.crossSection ≤ 1500) ∧ m.tunnel.baseLoss ≤ 10000 ∧
    m.tunnel.trainLoss ≤ 1000 ∧ (1000 ≤ m.tunnel.density ∧ m.tunnel.density ≤ 1300) ∧
    (200 ≤ m.tunnel.jetVelocity ∧ m.tunnel.jetVelocity ≤ 450) ∧ m.tunnel.windAllowance ≤ 200 ∧
    (50 ≤ m.tunnel.smokeDerating ∧ m.tunnel.smokeDerating ≤ 100) ∧ m.tunnel.redundancy ≤ 4 ∧
    (10 ≤ m.tunnel.trimBand ∧ m.tunnel.trimBand ≤ 100) ∧ (1 ≤ m.tunnel.windowSeconds ∧ m.tunnel.windowSeconds ≤ 10) ∧
    (2 ≤ m.tunnel.windowsPerPeriod ∧ m.tunnel.windowsPerPeriod ≤ 30) ∧
    (50 ≤ m.tunnel.debounceMs ∧ m.tunnel.debounceMs ≤ 1000) ∧
    (1 ≤ m.tunnel.feedbackAllowance ∧ m.tunnel.feedbackAllowance ≤ 10) ∧
    (5 ≤ m.tunnel.linkTimeout ∧ m.tunnel.linkTimeout ≤ 120) ∧
    (∀ k ∈ m.classes, (100 ≤ k.target ∧ k.target ≤ 600) ∧ k.firePressure ≤ 500 ∧ k.radiusUp ≤ 500 ∧
      k.radiusDown ≤ 2000) ∧
    (∀ f ∈ m.feeders, (1 ≤ f.slots ∧ f.slots ≤ 4) ∧ (1 ≤ f.settleTime ∧ f.settleTime ≤ 60)) ∧
    (∀ f ∈ m.fans, f.chainage ≤ m.tunnel.length ∧ f.feeder < m.feeders.length ∧
      (100 ≤ f.ratedThrust ∧ f.ratedThrust ≤ 4000) ∧ (50 ≤ f.installation ∧ f.installation ≤ 100) ∧
      (50 ≤ f.reverseRatio ∧ f.reverseRatio ≤ 100) ∧ (2 ≤ f.startTime ∧ f.startTime ≤ 60) ∧
      (10 ≤ f.coastTime ∧ f.coastTime ≤ 600) ∧ (15 ≤ f.heatRating ∧ f.heatRating ≤ 240)) ∧
    (∀ c ∈ m.channels, c.chainage ≤ m.tunnel.length ∧ (10 ≤ c.scale ∧ c.scale ≤ 1000) ∧
      (500 ≤ c.vmax ∧ c.vmax ≤ 3000)) ∧
    (∀ p ∈ m.plans, p.lo ≤ 30000 ∧ p.hi ≤ 30000 ∧ (1 ≤ p.descriptors.length ∧ p.descriptors.length ≤ 8) ∧
      ∀ d ∈ p.descriptors, d.first < m.fans.length ∧ d.count ≤ 64)

/-- The first failure of a load decides its cause (R180). While reading: a memory that does not answer the whole
header is NO_RESPONSE, a wrong format identifier or a count out of range BAD_FORMAT; where an image can be read, every
memory that stops short of its end is NO_RESPONSE and nothing beyond its end is read (R179); a plan whose first
last-flag other than 0 is not 1, or whose eighth is 0, is BAD_FORMAT. Then a check that does not match the bytes
before it is BAD_CRC, whatever the fields hold; then a field out of its range is RANGE; then a reference that does not
hold is REFERENCE; and an image that passes every pass is taken. -/
def Obligations.LoadFailuresTakeTheirOrder : Prop :=
  ∀ memory : List Byte,
    (memory.length < 10 → loadImage memory = .error .noResponse) ∧
    (10 ≤ memory.length → beNat (memory.take 2) ≠ 0x4A54 → loadImage memory = .error .badFormat) ∧
    (∀ b0 b1 b2 b3 b4 b5 fans channels feeders plans rest,
      memory = b0 :: b1 :: b2 :: b3 :: b4 :: b5 :: fans :: channels :: feeders :: plans :: rest →
      ((fans.toNat = 0 ∨ 64 < fans.toNat ∨ 16 < channels.toNat ∨ feeders.toNat = 0 ∨ 4 < feeders.toNat ∨
        32 < plans.toNat) → loadImage memory = .error .badFormat) ∧
      (let flag := fun (start j : Nat) => memory[start + 6 + 4 * j + 3]?;
        ∀ (start : Nat → Nat) (n d : Nat) (bad : Byte), n < plans.toNat →
          start 0 = 65 + 2 * feeders.toNat + 12 * fans.toNat + 6 * channels.toNat →
          (∀ i, i < n → ∃ e, e < 8 ∧ (∀ j, j < e → flag (start i) j = some 0) ∧ flag (start i) e = some 1 ∧
            start (i + 1) = start i + 6 + 4 * (e + 1)) →
          d < 8 → (∀ j, j < d → flag (start n) j = some 0) → flag (start n) d = some bad →
          bad ≠ 0 ∧ bad ≠ 1 ∨ bad = 0 ∧ d = 7 → loadImage memory = .error .badFormat)) ∧
    (∀ raw before, readImage memory = .ok (raw, before) →
      (∀ n, n < before + 2 → loadImage (memory.take n) = .error .noResponse) ∧
      loadImage (memory.take (before + 2)) = loadImage memory ∧
      (BitVec.ofNat 16 raw.check ≠ crc16 (memory.take before) → loadImage memory = .error .badCrc) ∧
      (BitVec.ofNat 16 raw.check = crc16 (memory.take before) →
        let outside : List (Nat × Nat) → List Nat → Prop := fun ranges fields =>
          ∃ (n : Nat) (r : Nat × Nat) (v : Nat), ranges[n]? = some r ∧ fields[n]? = some v ∧ (v < r.1 ∨ r.2 < v)
        let range : Prop :=
          outside [(500, 30000), (200, 1500), (0, 10000), (0, 1000), (1000, 1300), (200, 450), (0, 200), (50, 100),
            (0, 4), (10, 100), (1, 10), (2, 30), (50, 1000), (1, 10), (5, 120), (0, 1)] raw.tunnel ∨
          (∃ c ∈ raw.classes, outside [(100, 600), (0, 500), (0, 500), (0, 2000)] c) ∨
          (∃ f ∈ raw.feeders, outside [(1, 4), (1, 60)] f) ∨
          (∃ f ∈ raw.fans, outside [(0, 30000), (0, 3), (100, 4000), (50, 100), (0, 1), (50, 100), (2, 60), (10, 600),
            (15, 240)] f) ∨
          (∃ c ∈ raw.channels, outside [(0, 30000), (10, 1000), (500, 3000)] c) ∨
          ∃ p ∈ raw.plans, outside [(0, 1), (0, 30000), (0, 30000), (0, 1)] p.1 ∨
            ∃ x ∈ p.2, outside [(0, 63), (0, 64), (0, 1), (0, 1)] x
        let reference : Prop :=
          (∃ f ∈ raw.fans, ∃ x l, f[0]? = some x ∧ raw.tunnel[0]? = some l ∧ l < x) ∨
          (∃ f ∈ raw.fans, ∃ x, f[1]? = some x ∧ raw.feeders.length ≤ x) ∨
          (∃ y ∈ raw.channels, ∃ x l, y[0]? = some x ∧ raw.tunnel[0]? = some l ∧ l < x) ∨
          ∃ p ∈ raw.plans, ∃ y ∈ p.2, ∃ x, y[0]? = some x ∧ raw.fans.length ≤ x
        (range → loadImage memory = .error .range) ∧
        (¬ range → reference → loadImage memory = .error .reference) ∧
        (¬ range → ¬ reference → loadImage memory = .ok raw.build)))

/-- An accepted reload, by RELOAD_IMAGE or by a pulse on RELOAD, writes every demand NONE, clears the fault history,
empties the rings, stops counter, window timer and watchdog, keeps the coast counts, the records, the event set and
mask and the link counts, and starts a load; every queue is then empty and every starting count 0; a fan that leaves
FAILED with FB active starts a fresh stuck-running timer (R3, R75, R106, R122, R139, R158, R172, R178, R181, R183,
R184). The placing of a fan under an active TRIP, and that a TRIPPED fan
keeps a timer that runs, are DEDUCED (notes/assumptions 11). -/
def Obligations.AcceptedReloadStartsLoad : Prop :=
  ∀ s : State, s.ModeOk → s.OutputsOk → s.events.ask = false → (∀ i, i < s.fanCount → (s.fan i).run = false) →
    (s.line.mode = .configFault ∨ s.line.mode = .normal ∧
      ∀ i, i < s.fanCount → s.coastTime i ≤ (s.fan i).coastTimer ∧ (s.fan i).lockout = false) →
    let reloaded : State → Prop := fun t =>
      t.line.mode = .loading ∧ t.loader.load = .reading ∧ t.loader.fault = .none ∧ t.loader.loadError = false ∧
      t.line.counting = false ∧ t.line.windowCount = 0 ∧ t.line.boundaryDue = none ∧ t.line.overtaken = false ∧
      t.line.reports = [] ∧ t.link.watchdog = .stopped ∧
      t.air.windowTimer = none ∧ t.air.vm = none ∧
      t.events.levels = { s.events.levels with airflowFault := false } ∧ t.freeIndex = s.freeIndex ∧
      t.feeders.map (fun f => (f.state, f.settleTimer)) = s.feeders.map (fun f => (f.state, f.settleTimer)) ∧
      (∀ c ∈ t.air.channels, c.ring = [] ∧ c.pulseCount = 0 ∧ c.velocity = none) ∧
      t.image = s.image ∧ t.pending = s.pending ∧ t.feederInputs = s.feederInputs ∧ t.events.mask = s.events.mask ∧
      t.fanCount = s.fanCount ∧
      (∀ k : EventKind, k ≠ .fanFault → t.events.set.getLsbD k.bit = s.events.set.getLsbD k.bit) ∧
      (t.events.set.getLsbD EventKind.fanFault.bit = true ↔ s.events.set.getLsbD EventKind.fanFault.bit = true ∨
        s.events.mask.getLsbD EventKind.fanFault.bit = true ∧ ∃ i, i < s.fanCount ∧
          (s.fan i).state.isHolding = true ∧ (s.fan i).iso = false ∧ s.onDeadFeeder i = false ∧
          (s.fan i).trip = true) ∧
      (s.QueuesOk → ∀ g ∈ t.feeders, g.urgent = [] ∧ g.routine = [] ∧ g.startingCount = 0) ∧
      (∀ i, i < s.fanCount → (t.fan i).demand = .none ∧ (t.fan i).lockout = false ∧ (t.fan i).restartUsed = false ∧
        (t.fan i).expired = false ∧ (t.fan i).exposure = 0 ∧ (t.fan i).coastTimer = (s.fan i).coastTimer ∧
        (t.fan i).fb = (s.fan i).fb ∧ (t.fan i).trip = (s.fan i).trip ∧ (t.fan i).iso = (s.fan i).iso ∧
        ((s.fan i).state.isHolding = true → (t.fan i).stuckTimer =
          if (s.fan i).state = .failed ∧ (s.fan i).fb = true then some s.feedbackAllowance else (s.fan i).stuckTimer) ∧
        ((s.fan i).state.isHolding = true →
          ((s.fan i).iso = true → (t.fan i).state = .isolated) ∧
          ((s.fan i).iso = false → s.onDeadFeeder i = true → (t.fan i).state = .unpowered) ∧
          ((s.fan i).iso = false → s.onDeadFeeder i = false → (s.fan i).trip = true → (t.fan i).state = .tripped ∧
            (t.fan i).lastFault = .trip ∧ t.events.Shows .fanFault) ∧
          ((s.fan i).iso = false → s.onDeadFeeder i = false → (s.fan i).trip = false →
            (t.fan i).state = (if s.coastTime i ≤ (s.fan i).coastTimer then .idle else .coasting))) ∧
        ((s.fan i).state = .coasting → (t.fan i).state = .coasting) ∧
        ((s.fan i).state = .idle → (t.fan i).state = .idle) ∧
        ((s.fan i).state = .queued → (s.fan i).demand ≠ .none → (t.fan i).state = .idle) ∧
        ((t.fan i).state ≠ .tripped → (t.fan i).lastFault = .none))
    (s.link.tx.length < 8 → ∃ t, exec (.reloadImage []) s = .next t ∧ reloaded t ∧
      t.Sends (s.link.tx ++ [.accept 0x30]) ∧ t.loader.reloadInput = s.loader.reloadInput ∧
      t.link.core = { (s.replied (.accept 0x30)).link.core with watchdog := .stopped }) ∧
    (∃ t, exec .reloadPulse s = .next t ∧ reloaded t ∧ t.Sends s.link.tx ∧ t.loader.reloadInput = true ∧
      t.link.core = { s.link.core with watchdog := .stopped })

/-- A RELOAD_IMAGE is refused MODE in FIRE and, in NORMAL, STATE while a fan has RUN on, a coast timer running or a
lockout (R183); a pulse on RELOAD is then ignored, and so is one in LOADING, with RELOAD_IGNORED raised and nothing else
changed (R184). -/
def Obligations.ReloadNotAccepted : Prop :=
  ∀ s : State, s.events.ask = false →
    let blocked : Prop := s.line.mode = .normal ∧
      ∃ i, i < s.fanCount ∧ ((s.fan i).run = true ∨ (s.fan i).coastTimer < s.coastTime i ∨ (s.fan i).lockout = true)
    (s.CanTake → s.line.mode = .fire → exec (.reloadImage []) s = .next (s.replied (.refuse 0x30 .mode))) ∧
    (s.CanTake → blocked → exec (.reloadImage []) s = .next (s.replied (.refuse 0x30 .state))) ∧
    (s.line.mode = .fire ∨ s.line.mode = .loading ∨ blocked →
      ∃ t, exec .reloadPulse s = .next t ∧ t.events.Shows .reloadIgnored ∧ t.Sends s.link.tx ∧
        (∀ k : EventKind, k ≠ .reloadIgnored → t.events.set.getLsbD k.bit = s.events.set.getLsbD k.bit) ∧
        t.events.mask = s.events.mask ∧ t.events.levels = s.events.levels ∧ t.link.core = s.link.core ∧
        t.line = s.line ∧ t.image = s.image ∧ t.fans = s.fans ∧ t.feeders = s.feeders ∧
        t.feederInputs = s.feederInputs ∧ t.air = s.air ∧ t.pending = s.pending ∧
        t.loader = { s.loader with reloadInput := true })

/-! ### The control link (Chapter 9) -/

/-- A dropped frame, for a bad check, a bad LEN, a broken byte or a gap, raises the CRC error count, saturating, and
LINK_ERROR, and changes nothing else; the framer goes to HUNTING after a complete frame or a gap and to SKIPPING
otherwise (R160, R162). That FRAME_DROPPED does so in every framer state, in HUNTING and SKIPPING too, where R162 counts
no byte, and that a gap in HUNTING changes nothing, is the model's choice (notes/assumptions 2). An ATTENTION is
appended exactly when the event set was empty, the kind is unmasked, the queue has room and holds no ATTENTION (R166,
R175). -/
def Obligations.DroppedFrameIsCounted : Prop :=
  ∀ s : State, s.events.ask = false →
    let dropped : Framer → State → Prop := fun framer t =>
      t.link.framer = framer ∧ t.link.crcErrors = min 65535 (s.link.crcErrors + 1) ∧
      t.link.goodFrames = s.link.goodFrames ∧ t.link.lastSent = s.link.lastSent ∧ t.freeIndex = s.freeIndex ∧
      t.link.discards = s.link.discards ∧
      t.link.watchdog = s.link.watchdog ∧ t.events.Shows .linkError ∧
      (∀ k : EventKind, k ≠ .linkError → t.events.set.getLsbD k.bit = s.events.set.getLsbD k.bit) ∧
      t.link.tx = (if s.events.set = 0#12 ∧ s.events.mask.getLsbD 10 = true ∧ s.link.tx.length < 8 ∧
        Reply.attention ∉ s.link.tx then s.link.tx ++ [.attention] else s.link.tx) ∧
      t.events.mask = s.events.mask ∧ t.events.levels = s.events.levels ∧
      t.line = s.line ∧ t.image = s.image ∧ t.fans = s.fans ∧ t.feeders = s.feeders ∧
      t.feederInputs = s.feederInputs ∧ t.air = s.air ∧ t.loader = s.loader ∧ t.pending = s.pending
    (∃ t, exec (.frameDropped .badCheck) s = .next t ∧ dropped .hunting t) ∧
    (∃ t, exec (.frameDropped .badLength) s = .next t ∧ dropped .skipping t) ∧
    (∃ t, exec (.frameDropped .brokenByte) s = .next t ∧ dropped .skipping t) ∧
    (∀ bytes, s.link.framer = .collecting bytes → ∃ t, exec .frameGapTimeout s = .next t ∧ dropped .hunting t) ∧
    (s.link.framer = .skipping →
      exec .frameGapTimeout s = .next { s with link := { s.link with framer := .hunting } }) ∧
    (s.link.framer = .hunting → exec .frameGapTimeout s = .next s)

/-- The oldest frame leaves the transmit queue when its last byte has been sent, the rest keeping its order (R165); what
was sent is the frame of the record: start byte, LEN, type, payload, check, most significant bytes first (R159, R161).
With an empty queue nothing is sent (notes/assumptions 2). Type and payload of every record are those of the tables of
spec/09 section 9.6, field by field in the order sent, with its codes (R35, R118, R137, R155, R164, R167, R168,
R176). -/
def Obligations.FrameSentLeavesTheQueue : Prop :=
  (∀ s : State,
    (∀ r rest, s.link.tx = r :: rest → ∃ t, exec .frameSent s = .next t ∧ t.link.tx = rest ∧
      (∃ len type payload check : List Byte, t.link.lastSent = [0xA5] ++ len ++ type ++ payload ++ check ∧
        len.length = 2 ∧ type = [BitVec.ofNat 8 r.typeCode] ∧ payload = r.payload ∧ check.length = 2 ∧
        beNat len = (r.payload.length + 1) % 65536 ∧ beNat check = (crc16 (len ++ type ++ payload)).toNat) ∧
      t = { s with link := { s.link with tx := rest, lastSent := t.link.lastSent } }) ∧
    (s.link.tx = [] → exec .frameSent s = .next s)) ∧
  let u8 : Nat → List Byte := fun n => [BitVec.ofNat 8 n]
  let u16 : Nat → List Byte := fun n => [BitVec.ofNat 8 (n / 256), BitVec.ofNat 8 n]
  let u32 : Nat → List Byte := fun n => u16 (n / 65536) ++ u16 n
  let i8 : Int → List Byte := fun z => u8 (z % 256).toNat
  let i16 : Int → List Byte := fun z => u16 (z % 65536).toNat
  let flag : Bool → List Byte := fun b => if b then [1] else [0]
  let optional : Option (List Byte) → List Byte := fun o => match o with | none => [0] | some field => 1 :: field
  let direction : Direction → Byte := fun d => match d with | .forward => 0 | .reverse => 1
  let fanState : FanState → Byte := fun f => match f with
    | .idle => 0 | .queued => 1 | .starting _ _ => 2 | .running _ => 3 | .coasting => 4 | .tripped => 5 | .failed => 6
    | .isolated => 7 | .unpowered => 8
  let feederState : FeederState → Byte := fun f => match f with | .dead => 0 | .hold => 1 | .settling => 2 | .ready => 3
  let demandClass : DemandClass → Byte := fun c => match c with | .routine => 0 | .urgent => 1
  let mode : LineMode → Byte := fun x => match x with | .loading => 0 | .configFault => 1 | .normal => 2 | .fire => 3
  let loadFault : LoadFault → Byte := fun x => match x with
    | .none => 0 | .noResponse => 1 | .badFormat => 2 | .badCrc => 3 | .range => 4 | .reference => 5
  let pending : Option Bool → Byte := fun x => match x with | none => 0 | some false => 1 | some true => 2
  let demand : Demand → List Byte := fun x => match x with
    | .none => [0, 0] | .run .forward c => [1, demandClass c] | .run .reverse c => [2, demandClass c]
  let running : FanState → List Byte := fun x => match x with
    | .starting d (.ramp _) => [1, direction d, 1, 0]
    | .starting d (.confirm _) => [1, direction d, 1, 1]
    | .running d => [1, direction d, 0]
    | .idle | .queued | .coasting | .tripped | .failed | .isolated | .unpowered => [0, 0]
  let lastFault : LastFault → Byte := fun x => match x with
    | .none => 0 | .trip => 1 | .failToStart => 2 | .uncommandedStop => 3 | .stuckRunning => 4
  let reason : JoinReason → Byte := fun x => match x with
    | .initial => 0 | .need => 1 | .redundant => 2 | .trim => 3 | .full => 4
  let quality : Quality → Byte := fun x => match x with
    | .good => 0 | .overrange => 1 | .ambiguous => 2 | .unhealthy => 3
  let side : Option Side → Byte := fun x => match x with
    | none => 0 | some .cold => 1 | some .hot => 2 | some .neither => 3
  let refusal : RefuseReason → Byte := fun x => match x with
    | .unknownType => 1 | .badLength => 2 | .range => 3 | .mode => 4 | .state => 5 | .noImage => 6
  (∀ image, (Reply.ident image).typeCode = 0x81 ∧ (Reply.ident image).payload = [0x0B, 0x17, 0x00, 0x40] ++
    optional (image.map (fun p => u32 p.1.toNat)) ++ optional (image.map (fun p => u16 p.2.toNat))) ∧
  (∀ r, (Reply.status r).typeCode = 0x82 ∧ (Reply.status r).payload =
    [mode r.mode] ++ [loadFault r.loadFault] ++ flag r.eventsPending ++ u16 r.goodFrames ++ u16 r.crcErrors ++
    u16 r.discards ++ u8 r.feeders.length ++ r.feeders.map feederState ++ optional (r.vm.map i16) ++ u32 r.required ++
    u8 r.dutySize ++ u32 r.countedSum ++ u32 r.runningSum ++ flag r.shortfall ++ i8 r.trim ++
    optional (r.scenario.map (fun x => u16 x.chainage ++ [direction x.direction] ++ u8 x.fireClass ++
      u16 x.trainLength ++ u16 x.target ++ optional (x.pendingTarget.map u16) ++ flag x.fullThrust ++
      [pending x.pendingFullThrust] ++ u16 x.windowLow ++ u16 x.windowHigh ++ u8 (x.plan.getD 0xFF) ++
      u8 x.lowCount ++ u8 x.highCount ++ u8 x.preference.length ++ x.preference.map (fun i => BitVec.ofNat 8 i)))) ∧
  (∀ r, (Reply.fan r).typeCode = 0x83 ∧ (Reply.fan r).payload =
    u8 r.fan ++ u16 r.static.chainage ++ u8 r.static.feeder ++ u16 r.static.ratedThrust ++ u8 r.static.installation ++
    [direction r.static.primary] ++ u8 r.static.reverseRatio ++ u8 r.static.startTime ++ u16 r.static.coastTime ++
    u8 r.static.heatRating ++ [fanState r.state] ++ demand r.demand ++ running r.state ++ u16 r.coastRemaining ++
    flag r.restartUsed ++ flag r.lockout ++ [lastFault r.lastFault] ++ u16 r.exposure ++ flag r.expired ++ flag r.fb ++
    flag r.trip ++ flag r.iso ++ flag r.hotSide ++ flag r.excluded ++ optional (r.dutyPosition.map u8)) ∧
  (∀ states, (Reply.fanTable states).typeCode = 0x84 ∧
    (Reply.fanTable states).payload = u8 states.length ++ states.map fanState) ∧
  (∀ members : List Member, (Reply.duty members).typeCode = 0x85 ∧ ∃ records : List (List Byte),
    (Reply.duty members).payload = u8 members.length ++ records.flatten ∧ records.length = members.length ∧
    ∀ n x, members[n]? = some x → records[n]? = some (u8 x.fan ++ [reason x.reason] ++ u8 (n + 1) ++ u16 x.counted ++
      flag x.expired)) ∧
  (∀ r, (Reply.queue r).typeCode = 0x86 ∧ (Reply.queue r).payload =
    u8 r.feeder ++ [feederState r.state] ++ optional (r.settleRemaining.map u8) ++ u8 r.slots ++ u8 r.startingCount ++
    flag r.avail ++ flag r.vlow ++ u8 r.entries.length ++
    r.entries.flatMap (fun e => u8 e.fan ++ [demandClass e.cls, direction e.dir])) ∧
  (∀ vm channels, (Reply.airflow vm channels).typeCode = 0x87 ∧ (Reply.airflow vm channels).payload =
    optional (vm.map i16) ++ u8 channels.length ++ channels.flatMap (fun c => u8 c.samples ++
      optional (c.newest.map (fun x => i16 x.velocity ++ [quality x.quality])) ++
      flag c.valid ++ optional (c.velocity.map i16) ++ [side c.side])) ∧
  (∀ set : BitVec 12, (Reply.events set).typeCode = 0x88 ∧ (Reply.events set).payload = u16 set.toNat) ∧
  [EventKind.fireMode, .dutyChange, .shortfall, .feedbackLost, .fanFault, .fanExpired, .feederHold, .feederDead,
    .airflowFault, .linkLost, .linkError, .reloadIgnored].map EventKind.bit = List.range 12 ∧
  (∀ type, (Reply.accept type).typeCode = 0x89 ∧ (Reply.accept type).payload = [type]) ∧
  (∀ type why, (Reply.refuse type why).typeCode = 0x8A ∧ (Reply.refuse type why).payload = [type, refusal why]) ∧
  Reply.attention.typeCode = 0x8B ∧ Reply.attention.payload = []

/-- A well-formed frame that meets a full transmit queue, whatever its type, is discarded: it counts as good and as
discarded, it restarts the watchdog, LINK_ERROR is raised, no reply is queued and nothing else changes (R163). -/
def Obligations.FullQueueDiscardsFrames : Prop :=
  ∀ (s : State) (c : Instr) (type : Byte) (payload : List Byte), c.frame? = some (type, payload) →
    payload.length ≤ 255 → 8 ≤ s.link.tx.length → s.events.ask = false →
    ∃ t, exec c s = .next t ∧ t.link = { s.link with
        framer := .hunting, gapMs := 0, goodFrames := (s.link.goodFrames + 1) % 65536,
        discards := min 65535 (s.link.discards + 1),
        watchdog := if s.link.watchdog = .stopped then .stopped else .counting 0 } ∧
      t.events.Shows .linkError ∧
      (∀ k : EventKind, k ≠ .linkError → t.events.set.getLsbD k.bit = s.events.set.getLsbD k.bit) ∧
      t.events.mask = s.events.mask ∧ t.events.levels = s.events.levels ∧
      t.line = s.line ∧ t.image = s.image ∧ t.fans = s.fans ∧ t.feeders = s.feeders ∧
      t.feederInputs = s.feederInputs ∧ t.air = s.air ∧ t.loader = s.loader ∧ t.pending = s.pending

/-- The first checks of a taken frame, in their order (R164): a type that names no request is refused UNKNOWN_TYPE;
without an image in use every request but the four exempt ones is refused NO_IMAGE (RELOAD_IMAGE only in LOADING);
then a payload length the request does not allow is refused BAD_LENGTH. A refused request changes nothing but the
link. -/
def Obligations.RequestChecksTakeTheirOrder : Prop :=
  ∀ (s : State) (c : Instr) (type : Byte) (payload : List Byte), c.frame? = some (type, payload) →
    payload.length ≤ 255 → s.CanTake →
    let exempt : Prop := type ∈ [0x01#8, 0x02#8, 0x08#8, 0x09#8]
    let served : Prop := exempt ∨ s.line.mode = .normal ∨ s.line.mode = .fire ∨
      type = 0x30#8 ∧ s.line.mode = .configFault
    (type ∉ requestTypes → exec c s = .next (s.replied (.refuse type .unknownType))) ∧
    (type ∈ requestTypes → ¬ served → exec c s = .next (s.replied (.refuse type .noImage))) ∧
    (type ∈ requestTypes → served → payload.length ∉ allowedLengths type →
      exec c s = .next (s.replied (.refuse type .badLength)))

/-- The watchdog's expiry (R170): with the count at the link timeout it is LOST and LINK_LOST is raised. In NORMAL the
fallback of the image applies once: HOLD leaves every demand, STOP_ALL writes every demand NONE, so that a STARTING or
RUNNING fan coasts, a QUEUED one is IDLE, no fan is started and every queue is empty (R19, R132). In FIRE nothing else
changes (R20). That a LINK_TIMEOUT met with the count short of the timeout, as after a frame taken first (R19, R173),
or with the watchdog STOPPED or LOST, where R169 has no expiry, changes nothing, is the model's choice for an event
that the rules exclude (notes/assumptions 2). -/
def Obligations.LinkTimeoutAppliesTheFallback : Prop :=
  ∀ s : State, s.events.ask = false →
    (∀ n m, s.link.watchdog = .counting n → s.image = some m → m.tunnel.linkTimeout ≤ n →
      ∃ t, exec .linkTimeout s = .next t ∧
      State.FieldWork { s with link := { s.link with watchdog := .lost } } t ∧ t.line = s.line ∧
      t.events.Shows .linkLost ∧ t.events.levels = s.events.levels ∧
      (∀ k : EventKind, k ≠ .linkLost → t.events.set.getLsbD k.bit = s.events.set.getLsbD k.bit) ∧
      t.Sends s.link.tx ∧
      (s.line.mode = .fire ∨ m.tunnel.fallback = .hold → t.fans = s.fans ∧ t.feeders = s.feeders) ∧
      (s.line.mode = .normal → m.tunnel.fallback = .stopAll →
        (s.QueuesOk → ∀ g ∈ t.feeders, g.urgent = [] ∧ g.routine = [] ∧ g.startingCount = 0) ∧
        ∀ i, i < s.fanCount → (t.fan i).demand = .none ∧
          ((s.fan i).state.isHolding = true → (t.fan i).state = (s.fan i).state) ∧
          (s.QueuesOk →
            ((s.fan i).state = .idle ∨ (s.fan i).state = .queued → t.fan i = { s.fan i with
              state := .idle, demand := .none }) ∧
            ((s.fan i).state = .coasting → t.fan i = { s.fan i with demand := .none }) ∧
            (∀ d, (s.fan i).state.dir? = some d → (t.fan i).state = .coasting ∧ (t.fan i).run = false ∧
              (t.fan i).coastTimer = 0 ∧ (t.fan i).dirOut = (s.fan i).dirOut)))) ∧
    (∀ n m, s.link.watchdog = .counting n → s.image = some m → n < m.tunnel.linkTimeout →
      exec .linkTimeout s = .next s) ∧
    (s.link.watchdog = .stopped ∨ s.link.watchdog = .lost → exec .linkTimeout s = .next s)

/-- The bytes of a well-formed frame, received one by one while HUNTING, are the request that the frame carries: the
same next state as the request's own command (R159, R160, R161, R164). -/
def Obligations.BytesOfAFrameAreItsRequest : Prop :=
  ∀ (s : State) (type : Byte) (payload : List Byte), s.link.framer = .hunting → payload.length ≤ 255 →
    execAll ((frameBytes type payload).map (fun b => .byteReceived b true)) s = exec (requestOf type payload) s

/-- Every other byte (R159, R160, R161, R162): HUNTING ignores all but a whole 0xA5, which opens a frame; SKIPPING
ignores every byte; in COLLECTING a broken byte, a LEN of 0 or over 256, or a complete frame whose check does not
match drops the frame, and a byte before the frame is complete is stored. Every byte restarts the gap time: that a
broken byte in HUNTING and SKIPPING, which R159 has ignored, does so too is DEDUCED (notes/assumptions 21). -/
def Obligations.BytesOutsideAFrame : Prop :=
  ∀ (s : State) (b : Byte),
    let heard : State := { s with link := { s.link with gapMs := 0 } }
    (s.link.framer = .hunting → b ≠ 0xA5 → exec (.byteReceived b true) s = .next heard) ∧
    (s.link.framer = .hunting → exec (.byteReceived b false) s = .next heard) ∧
    (s.link.framer = .hunting → exec (.byteReceived 0xA5 true) s =
      .next { heard with link := { heard.link with framer := .collecting [] } }) ∧
    (s.link.framer = .skipping → ∀ stop, exec (.byteReceived b stop) s = .next heard) ∧
    (∀ bytes, s.link.framer = .collecting bytes →
      exec (.byteReceived b false) s = exec (.frameDropped .brokenByte) s) ∧
    (∀ hi, s.link.framer = .collecting [hi] → be16 hi b = 0 ∨ 256 < be16 hi b →
      exec (.byteReceived b true) s = exec (.frameDropped .badLength) s) ∧
    (∀ bytes, s.link.framer = .collecting bytes →
      bytes = [] ∨ (∃ hi, bytes = [hi] ∧ 1 ≤ be16 hi b ∧ be16 hi b ≤ 256) ∨
        (∃ hi lo rest, bytes = hi :: lo :: rest ∧ rest.length + 1 < be16 hi lo + 2) →
      exec (.byteReceived b true) s =
        .next { heard with link := { heard.link with framer := .collecting (bytes ++ [b]) } }) ∧
    (∀ hi lo rest, s.link.framer = .collecting (hi :: lo :: rest) → rest.length + 1 = be16 hi lo + 2 →
      beNat ((hi :: lo :: rest ++ [b]).drop (be16 hi lo + 2)) ≠
        (crc16 ((hi :: lo :: rest ++ [b]).take (be16 hi lo + 2))).toNat →
      exec (.byteReceived b true) s = exec (.frameDropped .badCheck) s)

/-- The requests that ask, with a payload of the right length, change nothing but the link, and their replies hold the
values as they stand: IDENT (R167), FAN_TABLE (R118), DUTY (R35, R74), QUEUE (R137), AIRFLOW with each channel's side
in FIRE (R155, R10); a feeder that is not installed is refused RANGE (R137). -/
def Obligations.QueriesReportAndChangeNothing : Prop :=
  ∀ s : State, s.CanTake →
    exec (.identify []) s = .next (s.replied (.ident (s.image.map (fun m => (m.identifier, m.crc))))) ∧
    (s.line.mode = .normal ∨ s.line.mode = .fire →
      exec (.getFanTable []) s = .next (s.replied (.fanTable (s.fans.map (fun f => f.state)))) ∧
      exec (.getDuty []) s = .next (s.replied (.duty s.line.duty)) ∧
      (∀ n : Byte, s.feeders.length ≤ n.toNat →
        exec (.getQueue [n]) s = .next (s.replied (.refuse 0x06 .range))) ∧
      (∀ (n : Byte) (f : Feeder), s.feeders[n.toNat]? = some f → ∃ r,
        exec (.getQueue [n]) s = .next (s.replied (.queue r)) ∧ r.feeder = n.toNat ∧ r.state = f.state ∧
        r.settleRemaining = f.settleTimer ∧ r.slots = s.slots n.toNat ∧ r.startingCount = f.startingCount ∧
        r.avail = (s.inputs n.toNat).avail ∧ r.vlow = (s.inputs n.toNat).vlow ∧
        r.entries.map (fun e => e.fan) = f.urgent.map (fun e => e.fan) ++ f.routine.map (fun e => e.fan) ∧
        r.entries.map (fun e => e.dir) = f.urgent.map (fun e => e.dir) ++ f.routine.map (fun e => e.dir) ∧
        r.entries.map (fun e => e.cls) =
          f.urgent.map (fun _ => DemandClass.urgent) ++ f.routine.map (fun _ => DemandClass.routine)) ∧
      ∃ channels, exec (.getAirflow []) s = .next (s.replied (.airflow s.air.vm channels)) ∧
        channels.length = s.air.channels.length ∧
        ∀ (n : Nat) (c : Channel), s.air.channels[n]? = some c → ∃ r : ChannelReport,
          channels[n]? = some r ∧ r.samples = c.ring.length ∧
          r.newest = c.ring.getLast? ∧ r.valid = c.velocity.isSome ∧ r.velocity = c.velocity ∧
          (s.line.scenario = none → r.side = none) ∧
          (∀ sc m st, s.line.scenario = some sc → s.image = some m → m.channels[n]? = some st →
            r.side = some (sc.sideOf st.chainage)))

/-- GET_STATUS and GET_FAN change nothing but the link, and their replies hold the values as they stand (R168, R32,
R33, R34, R74, R90, R118), the FAN reply's two flags in FIRE by the fan's chainage (R10); a fan number without a
record is refused RANGE (R118). -/
def Obligations.StatusAndFanReplies : Prop :=
  ∀ s : State, s.CanTake →
    (∃ r, exec (.getStatus []) s = .next (s.replied (.status r)) ∧ r.mode = s.line.mode ∧
      r.loadFault = s.loader.fault ∧ (r.eventsPending = true ↔ s.events.set ≠ 0#12) ∧
      r.goodFrames = (s.link.goodFrames + 1) % 65536 ∧ r.crcErrors = s.link.crcErrors ∧
      r.discards = s.link.discards ∧ r.feeders = s.feeders.map (fun f => f.state) ∧ r.vm = s.air.vm ∧
      r.dutySize = s.line.duty.length ∧ r.countedSum = (s.line.duty.map (fun m => m.counted)).sum ∧
      r.runningSum = ((s.line.duty.filter (fun m => match (s.fan m.fan).state with
        | .running _ => true | _ => false)).map (fun m => m.counted)).sum ∧
      r.runningSum ≤ r.countedSum ∧
      (s.line.scenario = none → r.required = 0 ∧ r.shortfall = false ∧ r.trim = 0 ∧ r.scenario = none) ∧
      (∀ sc, s.line.scenario = some sc → r.required = sc.required ∧ r.shortfall = sc.shortfall ∧ r.trim = sc.trim ∧
        r.scenario = some {
          chainage := sc.chainage, direction := sc.direction, fireClass := sc.fireClass,
          trainLength := sc.trainLength, target := sc.target, pendingTarget := sc.pendingTarget,
          fullThrust := sc.fullThrust, pendingFullThrust := sc.pendingFullThrust, windowLow := sc.windowLow,
          windowHigh := sc.windowHigh, plan := sc.plan, lowCount := sc.lowCount, highCount := sc.highCount,
          preference := sc.preference })) ∧
    (s.line.mode = .normal ∨ s.line.mode = .fire →
      (∀ i : Byte, s.fanStatic? i.toNat = none → exec (.getFan [i]) s = .next (s.replied (.refuse 0x03 .range))) ∧
      (∀ (i : Byte) (st : FanStatic), s.fanStatic? i.toNat = some st → ∃ r,
        exec (.getFan [i]) s = .next (s.replied (.fan r)) ∧ r.fan = i.toNat ∧ r.static = st ∧
        r.state = (s.fan i.toNat).state ∧ r.demand = (s.fan i.toNat).demand ∧
        r.coastRemaining = st.coastTime - (s.fan i.toNat).coastTimer ∧
        r.restartUsed = (s.fan i.toNat).restartUsed ∧ r.lockout = (s.fan i.toNat).lockout ∧
        r.lastFault = (s.fan i.toNat).lastFault ∧ r.exposure = (s.fan i.toNat).exposure ∧
        r.expired = (s.fan i.toNat).expired ∧ r.fb = (s.fan i.toNat).fb ∧ r.trip = (s.fan i.toNat).trip ∧
        r.iso = (s.fan i.toNat).iso ∧ (s.line.scenario = none → r.hotSide = false ∧ r.excluded = false) ∧
        (∀ sc, s.line.scenario = some sc → r.hotSide = decide (sc.sideOf st.chainage = .hot) ∧
          r.excluded = sc.excludes st.chainage) ∧
        (r.dutyPosition.isSome = true ↔ s.isMember i.toNat = true) ∧
        (∀ p, r.dutyPosition = some p → 1 ≤ p ∧ (s.line.duty[p - 1]?).map (fun m => m.fan) = some i.toNat)))

/-! ### Events (Chapter 10) -/

/-- READ_EVENTS answers the event set and empties it; each unmasked level kind whose condition holds is latched again,
with no ATTENTION asked (R175, R176). -/
def Obligations.ReadEventsEmptiesTheSet : Prop :=
  ∀ s : State, s.CanTake → ∃ e, exec (.readEvents []) s =
      .next { s.replied (.events s.events.set) with events := e } ∧
    e.mask = s.events.mask ∧ e.levels = s.events.levels ∧ e.ask = false ∧
    ∀ k : EventKind, e.set.getLsbD k.bit = (s.events.mask.getLsbD k.bit &&
      match k with
      | .shortfall => s.events.levels.shortfall
      | .feedbackLost => s.events.levels.feedbackLost
      | .feederHold => s.events.levels.feederHold
      | .feederDead => s.events.levels.feederDead
      | .airflowFault => s.events.levels.airflowFault
      | .fireMode | .dutyChange | .fanFault | .fanExpired | .linkLost | .linkError | .reloadIgnored => false)

/-- SET_EVENT_MASK replaces the mask; a newly masked kind leaves the set, a newly unmasked level kind whose condition
holds is latched, and a kind whose bit is unchanged stays as it stands (R177). An ATTENTION follows the
ACCEPT exactly when a kind is latched into the set that the removals left empty, and the queue has room and holds no
ATTENTION (R166, R175); that the removals come first is DEDUCED (notes/assumptions 12). -/
def Obligations.EventMaskReplaced : Prop :=
  ∀ (s : State) (hi lo : Byte), s.CanTake → s.EventsOk → ∃ t, exec (.setEventMask [hi, lo]) s = .next t ∧
    (∀ k : EventKind, t.events.mask.getLsbD k.bit = (hi ++ lo).getLsbD k.bit) ∧
    t.events.levels = s.events.levels ∧
    (∀ k : EventKind, (hi ++ lo).getLsbD k.bit = false → t.events.set.getLsbD k.bit = false) ∧
    (∀ k : EventKind, (hi ++ lo).getLsbD k.bit = true → s.events.mask.getLsbD k.bit = true →
      t.events.set.getLsbD k.bit = s.events.set.getLsbD k.bit) ∧
    (∀ k : EventKind, (hi ++ lo).getLsbD k.bit = true → s.events.mask.getLsbD k.bit = false →
      t.events.set.getLsbD k.bit =
        match k with
        | .shortfall => s.events.levels.shortfall
        | .feedbackLost => s.events.levels.feedbackLost
        | .feederHold => s.events.levels.feederHold
        | .feederDead => s.events.levels.feederDead
        | .airflowFault => s.events.levels.airflowFault
        | .fireMode | .dutyChange | .fanFault | .fanExpired | .linkLost | .linkError | .reloadIgnored => false) ∧
    (let removed := s.events.set &&& (hi ++ lo).setWidth 12;
      t.link.tx = s.link.tx ++ [.accept 0x09] ++
        (if removed = 0#12 ∧ t.events.set ≠ 0#12 ∧ s.link.tx.length < 7 ∧ Reply.attention ∉ s.link.tx
          then [.attention] else [])) ∧ t.link.core = (s.replied (.accept 0x09)).link.core ∧
    t.line = s.line ∧ t.image = s.image ∧ t.fans = s.fans ∧ t.feeders = s.feeders ∧
    t.feederInputs = s.feederInputs ∧ t.air = s.air ∧ t.loader = s.loader ∧ t.pending = s.pending

/-! ### The fire scenario (Chapters 1 and 5) -/

/-- An ACTIVATE_FIRE taken in NORMAL, in either form, creates the scenario record with the figures of the request, its
window and its list (R5, R7, R8, R9, R39), enters FIRE, leaves the counter and the window timer running (R11), forms
vm under it (R153), evaluates, raises FIRE_MODE and is answered ACCEPT (R6, R13). A fan's restart_used may become yes
by the automatic restart at entry to FIRE (R108, R114); its exposure and expired flag stay (R70). The ROUTINE entries
leave the queues (R11, R132). Each fan on the list that is STARTING or RUNNING in d joins first, with reason INITIAL,
in list order, its start, its RUN and its slot as they stand (R13, R66), but for the last of them that are more than
the line needs; every fan that is no member holds NONE, and coasts if its RUN was on (R12). The line
evaluated is given field by field (State.FireEntered), so that the NEED, REDUNDANT and TRIM joins and the size D are
those of its evaluation (R13, R56, R60 to R64). -/
def Obligations.ActivationEntersFire : Prop :=
  ∀ (s : State) (payload : List Byte) (req : FireRequest) (m : LineImage) (k : FireClass) (d : Direction),
    s.CanTake → s.ModeOk → s.line.mode = .normal → s.image = some m → operandFire payload = some req →
    m.classes[req.fireClass]? = some k → directionOfCode req.directionCode = some d →
    req.chainage ≤ m.tunnel.length →
    ∃ t sc, exec (.activateFire payload) s = .next t ∧ State.LineWork (s.replied (.accept 0x10)) t ∧
      t.Sends (s.link.tx ++ [.accept 0x10]) ∧ t.line.mode = .fire ∧ t.line.scenario = some sc ∧
      sc.chainage = req.chainage ∧ sc.direction = d ∧ sc.fireClass = req.fireClass ∧
      sc.trainLength = min 1000 req.trainLength ∧
      sc.target = (match req.target with | some v => max 100 (min 600 v) | none => k.target) ∧
      sc.windowLow = sc.chainage - (match d with | .forward => k.radiusUp | .reverse => k.radiusDown) ∧
      sc.windowHigh =
        min m.tunnel.length (sc.chainage + (match d with | .forward => k.radiusDown | .reverse => k.radiusUp)) ∧
      (sc.plan, sc.preference) = resolvePreference sc m.plans (m.fans.map (fun f => f.chainage)) ∧
      sc.pendingTarget = none ∧ sc.fullThrust = false ∧ sc.pendingFullThrust = none ∧ sc.trim = 0 ∧
      sc.lowCount = 0 ∧ sc.highCount = 0 ∧
      sc.required = requiredThrust m.tunnel k.firePressure sc.target sc.trainLength ∧
      (∀ i, t.isMember i = true → i ∈ sc.preference) ∧
      t.air.vm = coldSideVm s.air.channels m sc ∧
      t.events.levels.feedbackLost = t.air.vm.isNone ∧ t.events.levels.shortfall = sc.shortfall ∧
      t.line.windowCount = s.line.windowCount ∧ t.line.boundaryDue = s.line.boundaryDue ∧
      t.line.overtaken = s.line.overtaken ∧ t.line.reports = [] ∧ t.events.Shows .fireMode ∧
      (∀ i, (t.fan i).exposure = (s.fan i).exposure ∧ (t.fan i).expired = (s.fan i).expired) ∧
      (∀ i, i < s.fanCount →
        let restarts := (s.fan i).state = .tripped ∧ (s.fan i).trip = false ∧ s.coastTime i ≤ (s.fan i).coastTimer
        ((t.fan i).restartUsed = true ↔ (s.fan i).restartUsed = true ∨ restarts) ∧
        (restarts → (s.fan i).restartUsed = false → (t.fan i).state ≠ .tripped)) ∧
      (t.line.duty ≠ [] → t.events.Shows .dutyChange) ∧
      (s.RecordsOk → s.QueuesOk → s.MembersOk →
        let initial := sc.preference.filter (fun i => decide ((s.fan i).state.dir? = some d))
        let taken := (t.line.duty.filter (fun x => decide (x.reason = .initial))).map (fun x => x.fan)
        let live := fun (l : List Nat) => l.filter (fun i => !(s.fan i).expired)
        (∃ joined, t.line.duty.map (fun x => x.fan) = taken ++ joined) ∧ taken.Sublist initial ∧
        live taken <+: live initial ∧ (∀ i ∈ initial, (s.fan i).expired = true → i ∈ taken) ∧
        (taken ≠ initial → t.line.duty.map (fun x => x.fan) = taken ∧ nonExpired t.line.duty ≠ [] ∧
          sc.required ≤ countedSum (nonExpired t.line.duty)) ∧
        (∀ i ∈ taken, t.fan i = { s.fan i with demand := .run d .urgent }) ∧
        (∀ i, i < s.fanCount → t.isMember i = false → (t.fan i).demand = .none ∧
          ((s.fan i).state = .queued → (t.fan i).state = .idle) ∧
          ((s.fan i).state.dir?.isSome = true → (t.fan i).state = .coasting ∧ (t.fan i).run = false ∧
            (t.fan i).coastTimer = 0)) ∧
        ∀ g ∈ t.feeders, g.routine = []) ∧
      (s.RecordsOk → s.QueuesOk → s.OutputsOk → s.MembersOk → ∃ u, s.FireEntered m sc u ∧
        t.line = u.evaluate.line ∧ t.fans = u.evaluate.fans ∧ t.feeders = u.evaluate.feeders ∧
        t.events.mask = u.evaluate.events.mask ∧ t.events.levels = u.evaluate.events.levels ∧
        ∀ k : EventKind, k ≠ .fireMode → t.events.set.getLsbD k.bit = u.evaluate.events.set.getLsbD k.bit)

/-- An ACTIVATE_FIRE taken in FIRE, an update or a redirection by its direction, replaces the figures, the window and
the list at once, resets t, both counts and the pending target, keeps full thrust and its pending value, every fan's
history and the event kind FIRE_MODE as it stands, forms vm and evaluates (R7, R8, R9, R14, R15, R153). An update
keeps the members that are still on the list and usable in their order and with their reasons, but for the last of
them that are more than the line needs, and others join behind them (R14, R52, R68). A redirection empties the duty
set: every fan with RUN on coasts, and none joins as INITIAL (R15, R66, R67). A departure sets membership changed and
raises DUTY_CHANGE. The line evaluated is given field by field (State.FireUpdated, State.FireRedirected), so that the
joins and the size are those of its evaluation (R56, R60 to R64). That the members which an update drops have NONE
written one after another in join order is DEDUCED, as R67 says it of a redirection only (notes/assumptions 10). In
NORMAL and in FIRE a chainage above L, a class above 3 or a direction code that names no direction is refused RANGE (R6). -/
def Obligations.ActivateFireInFireReplacesTheFigures : Prop :=
  ∀ (s : State) (payload : List Byte) (req : FireRequest) (m : LineImage), s.CanTake → s.image = some m →
    operandFire payload = some req →
    (∀ (k : FireClass) (d : Direction) (old : Scenario), s.line.mode = .fire → s.line.scenario = some old →
      m.classes[req.fireClass]? = some k → directionOfCode req.directionCode = some d →
      req.chainage ≤ m.tunnel.length →
      ∃ t sc, exec (.activateFire payload) s = .next t ∧ State.LineWork (s.replied (.accept 0x10)) t ∧
        t.Sends (s.link.tx ++ [.accept 0x10]) ∧ t.line.mode = .fire ∧ t.line.scenario = some sc ∧
        sc.chainage = req.chainage ∧ sc.direction = d ∧ sc.fireClass = req.fireClass ∧
        sc.trainLength = min 1000 req.trainLength ∧
        sc.target = (match req.target with | some v => max 100 (min 600 v) | none => k.target) ∧
        sc.windowLow = sc.chainage - (match d with | .forward => k.radiusUp | .reverse => k.radiusDown) ∧
        sc.windowHigh =
          min m.tunnel.length (sc.chainage + (match d with | .forward => k.radiusDown | .reverse => k.radiusUp)) ∧
        (sc.plan, sc.preference) = resolvePreference sc m.plans (m.fans.map (fun f => f.chainage)) ∧
        sc.pendingTarget = none ∧ sc.trim = 0 ∧ sc.lowCount = 0 ∧ sc.highCount = 0 ∧
        sc.fullThrust = old.fullThrust ∧ sc.pendingFullThrust = old.pendingFullThrust ∧
        sc.required = requiredThrust m.tunnel k.firePressure sc.target sc.trainLength ∧
        (∀ i, t.isMember i = true → i ∈ sc.preference) ∧
        t.air.vm = coldSideVm s.air.channels m sc ∧
        t.events.levels.feedbackLost = t.air.vm.isNone ∧ t.events.levels.shortfall = sc.shortfall ∧
        t.events.set.getLsbD 0 = s.events.set.getLsbD 0 ∧
        t.line.windowCount = s.line.windowCount ∧ t.line.boundaryDue = s.line.boundaryDue ∧
        t.line.overtaken = s.line.overtaken ∧ t.line.reports = s.line.reports ∧
        (∀ i, (s.fan i).SameHistory (t.fan i)) ∧
        (d = old.direction → s.DutyOk →
          let listed := s.line.duty.filter (fun x => sc.preference.contains x.fan)
          let kept := (listed.filter (fun x => (s.fan x.fan).state.isWorking)).map (fun x => (x.fan, x.reason))
          let live := fun (l : List (Nat × JoinReason)) => l.filter (fun x => !(s.fan x.1).expired)
          (∃ stay joined, t.line.duty.map (fun x => (x.fan, x.reason)) = stay ++ joined ∧ stay.Sublist kept ∧
            live stay <+: live kept ∧ (∀ x ∈ kept, (s.fan x.1).expired = true → x ∈ stay) ∧
            (∀ x ∈ joined, x.2 ≠ .initial) ∧
            (stay ≠ kept → joined = [] ∧ sc.fullThrust = false ∧ nonExpired t.line.duty ≠ [] ∧
              sc.required ≤ countedSum (nonExpired t.line.duty))) ∧
          (listed ≠ s.line.duty → sc.membershipChanged = true ∧ t.events.Shows .dutyChange)) ∧
        (d = old.direction → ∃ u, s.FireUpdated m old sc u ∧ u.EvaluatedFrom t) ∧
        (d ≠ old.direction → ∃ w u, s.FireRedirected m old sc w u ∧ u.EvaluatedFrom t) ∧
        (d ≠ old.direction → s.line.duty ≠ [] → sc.membershipChanged = true ∧ t.events.Shows .dutyChange) ∧
        (d ≠ old.direction → s.ModeOk → s.RecordsOk → s.QueuesOk → s.DutyOk → s.MembersOk →
          (∀ x ∈ t.line.duty, x.reason ≠ .initial) ∧
          (∀ i, i < s.fanCount → t.isMember i = false → (t.fan i).demand = .none) ∧
          ∀ i, (s.fan i).state.dir?.isSome = true → (t.fan i).state = .coasting ∧ (t.fan i).run = false ∧
            (t.fan i).coastTimer = 0)) ∧
    (s.line.mode = .normal ∨ s.line.mode = .fire → m.classes.length = 4 →
      m.tunnel.length < req.chainage ∨ 3 < req.fireClass ∨ 1 < req.directionCode →
      exec (.activateFire payload) s = .next (s.replied (.refuse 0x10 .range)))

/-- SET_TARGET and FULL_THRUST taken in FIRE store a pending value, the velocity clamped to 100..600 cm/s, and change
nothing else but the link; in NORMAL both are refused MODE, and a FULL_THRUST code that names neither on nor off is
refused RANGE in FIRE (R80, R81). -/
def Obligations.SetpointsAreBuffered : Prop :=
  ∀ s : State, s.CanTake →
    (∀ sc : Scenario, s.line.mode = .fire → s.line.scenario = some sc →
      (∀ hi lo : Byte, exec (.setTarget [hi, lo]) s = .next ({ s with line := { s.line with
        scenario := some { sc with pendingTarget := some (max 100 (min 600 (be16 hi lo))) } } }.replied
          (.accept 0x11))) ∧
      (∀ b : Byte, b.toNat ≤ 1 → exec (.fullThrust [b]) s = .next ({ s with line := { s.line with
        scenario := some { sc with pendingFullThrust := some (decide (b.toNat = 1)) } } }.replied (.accept 0x12)))) ∧
    (s.line.mode = .fire → ∀ b : Byte, 1 < b.toNat →
      exec (.fullThrust [b]) s = .next (s.replied (.refuse 0x12 .range))) ∧
    (s.line.mode = .normal → ∀ hi lo b : Byte,
      exec (.setTarget [hi, lo]) s = .next (s.replied (.refuse 0x11 .mode)) ∧
      exec (.fullThrust [b]) s = .next (s.replied (.refuse 0x12 .mode)))

/-- STAND_DOWN taken in FIRE writes NONE to every fan, empties the duty set, clears every restart_used, discards the
scenario record and enters NORMAL with FIRE_MODE raised; a STARTING or RUNNING fan coasts, a QUEUED one is IDLE,
and every queue is empty (R17, R132).
The counter restarts from zero, a boundary still due is not taken (R89), a loss report still waiting changes nothing
any more and is dropped, the model's choice (R18; notes/assumptions 24), the window timer runs on, SHORTFALL and
FEEDBACK_LOST are false and vm is formed in the NORMAL sense (R18, R75, R152, R153). In NORMAL it is refused MODE
(R17). -/
def Obligations.StandDownReturnsToNormal : Prop :=
  ∀ s : State, s.CanTake →
    (s.line.mode = .fire → ∃ t, exec (.standDown []) s = .next t ∧
      State.LineWork (s.replied (.accept 0x13)) t ∧ t.Sends (s.link.tx ++ [.accept 0x13]) ∧
      t.line.mode = .normal ∧ t.line.scenario = none ∧ t.line.duty = [] ∧ t.line.windowCount = 0 ∧
      t.line.boundaryDue = none ∧ t.line.overtaken = (s.line.overtaken || s.line.boundaryDue.isSome) ∧
      t.line.reports = [] ∧
      t.air.vm = meanTowardZero (s.air.channels.filterMap (fun c => c.velocity)) ∧
      (∀ i, i < s.fanCount → (t.fan i).demand = .none ∧ (t.fan i).restartUsed = false ∧
        (t.fan i).exposure = (s.fan i).exposure ∧ (t.fan i).expired = (s.fan i).expired ∧
        ((s.fan i).state.isHolding = true → (t.fan i).state = (s.fan i).state)) ∧
      (s.QueuesOk → ∀ g ∈ t.feeders, g.urgent = [] ∧ g.routine = [] ∧ g.startingCount = 0) ∧
      (s.QueuesOk → ∀ i, i < s.fanCount →
        ((s.fan i).state = .idle ∨ (s.fan i).state = .queued → t.fan i = { s.fan i with
          state := .idle, demand := .none, restartUsed := false }) ∧
        ((s.fan i).state = .coasting → t.fan i = { s.fan i with demand := .none, restartUsed := false }) ∧
        (∀ d, (s.fan i).state.dir? = some d → (t.fan i).state = .coasting ∧ (t.fan i).run = false ∧
          (t.fan i).coastTimer = 0 ∧ (t.fan i).dirOut = (s.fan i).dirOut)) ∧
      t.events.levels.shortfall = false ∧ t.events.levels.feedbackLost = false ∧ t.events.Shows .fireMode ∧
      (s.line.duty ≠ [] → t.events.Shows .dutyChange)) ∧
    (s.line.mode = .normal → exec (.standDown []) s = .next (s.replied (.refuse 0x13 .mode)))

/-! ### Fan requests (Chapter 6) -/

/-- FAN_COMMAND (R115). A taken command writes its demand, with class ROUTINE, to its fan alone and is answered
ACCEPT; what the fan then does is R96's table, and so it is for every demand written, URGENT ones too
(State.DemandWritten): an entry joins the end of its class group (R97, R130), changes its direction in place or moves
to the end of its new group (R131), and leaves from wherever it stands (R131); whenever an entry joins or a slot is
freed, a READY feeder starts its head entries, URGENT before ROUTINE, for as long as slots are free (R98, R129, R134).
An IDLE fan is STARTING at once exactly when its feeder is READY with a slot free (R130, R134). STOP is taken in every
state; a run action is refused STATE in TRIPPED, FAILED and ISOLATED and under lockout; a fan or an action outside the
range is refused RANGE; in FIRE every command is refused MODE. -/
def Obligations.FanCommandWritesTheDemand : Prop :=
  (∀ (s : State) (i : Nat) (d : Demand), s.DemandWritten i d (s.writeDemand i d)) ∧
  ∀ (s : State) (fan action : Byte), s.CanTake →
    let i := fan.toNat
    let f := s.fan i
    let demand : Demand := if action = 0 then .none else .run (if action = 1 then .forward else .reverse) .routine
    let barred : Prop := f.state = .tripped ∨ f.state = .failed ∨ f.state = .isolated ∨ f.lockout = true
    (s.line.mode = .fire → exec (.fanCommand [fan, action]) s = .next (s.replied (.refuse 0x20 .mode))) ∧
    (s.line.mode = .normal → s.fanCount ≤ i ∨ 2 < action.toNat →
      exec (.fanCommand [fan, action]) s = .next (s.replied (.refuse 0x20 .range))) ∧
    (s.line.mode = .normal → i < s.fanCount → action.toNat = 1 ∨ action.toNat = 2 → barred →
      exec (.fanCommand [fan, action]) s = .next (s.replied (.refuse 0x20 .state))) ∧
    (s.line.mode = .normal → i < s.fanCount → action.toNat ≤ 2 → action = 0 ∨ ¬ barred → f.demand = demand →
      exec (.fanCommand [fan, action]) s = .next (s.replied (.accept 0x20))) ∧
    (s.line.mode = .normal → i < s.fanCount → action.toNat ≤ 2 → action = 0 ∨ ¬ barred → f.demand ≠ demand →
      ∃ t, exec (.fanCommand [fan, action]) s = .next t ∧ State.FieldWork (s.replied (.accept 0x20)) t ∧
        t.link.tx = s.link.tx ++ [.accept 0x20] ∧ t.line = s.line ∧ t.events = s.events ∧
        (t.fan i).demand = demand ∧
        s.OthersOnlyStart i t ∧
        (∃ v, State.DemandWritten { s with link := v.link } i demand v ∧ t.fans = v.fans ∧ t.feeders = v.feeders) ∧
        (s.GrantsOk → f.state = .idle → ∀ d n g, demand = .run d .routine → s.feederOf i = some n →
          s.feeders[n]? = some g →
          ((t.fan i).state = .starting d (.ramp (s.startTime i)) ↔ g.state = .ready ∧ g.startingCount < s.slots n)) ∧
        (f.state = .idle → demand ≠ .none → (t.fan i).state = .queued ∨
          (t.fan i).run = true ∧ ∃ d, (t.fan i).state = .starting d (.ramp (s.startTime i))) ∧
        (f.state = .queued → demand = .none → (t.fan i).state = .idle) ∧
        (f.state = .queued → demand ≠ .none → (t.fan i).state = .queued) ∧
        (∀ d, f.state.dir? = some d → demand = .run d .routine →
          t.fan i = { f with demand := demand } ∧ t.feeders = s.feeders) ∧
        (∀ d, f.state.dir? = some d → demand ≠ .run d .routine →
          (t.fan i).state = .coasting ∧ (t.fan i).run = false ∧ (t.fan i).coastTimer = 0 ∧
          (t.fan i).dirOut = f.dirOut) ∧
        (f.state = .coasting ∨ f.state.isHolding = true →
          t.fan i = { f with demand := demand } ∧ t.feeders = s.feeders))

/-- LOCKOUT (R116): a taken LOCKOUT sets the fan's lockout, writes its demand NONE and takes a fan in a working state
to ISOLATED with RUN off (R110), its queue entry removed or its start slot freed (R96, R113); a fan in a holding state
keeps it, and one already locked out is not changed. In FIRE it is refused MODE, outside the fan count RANGE. -/
def Obligations.LockoutIsolatesTheFan : Prop :=
  ∀ (s : State) (fan : Byte), s.CanTake →
    let i := fan.toNat
    let f := s.fan i
    (s.line.mode = .fire → exec (.lockout [fan]) s = .next (s.replied (.refuse 0x21 .mode))) ∧
    (s.line.mode = .normal → s.fanCount ≤ i → exec (.lockout [fan]) s = .next (s.replied (.refuse 0x21 .range))) ∧
    (s.line.mode = .normal → i < s.fanCount → f.lockout = true →
      exec (.lockout [fan]) s = .next (s.replied (.accept 0x21))) ∧
    (s.ModeOk → s.line.mode = .normal → i < s.fanCount → f.lockout = false →
      ∃ t, exec (.lockout [fan]) s = .next t ∧
        State.FieldWork ((s.replied (.accept 0x21)).modifyFan i (fun f => { f with lockout := true })) t ∧
        t.link.tx = s.link.tx ++ [.accept 0x21] ∧ t.line = s.line ∧ t.events = s.events ∧
        (t.fan i).demand = .none ∧
        (f.state.isWorking = true → (t.fan i).state = .isolated ∧ (t.fan i).run = false ∧
          (t.fan i).dirOut = f.dirOut) ∧
        (f.state.isHolding = true → t.fan i = { f with lockout := true, demand := .none } ∧
          t.feeders = s.feeders) ∧ s.OthersOnlyStart i t ∧
        (f.state.isWorking = true → ∃ v u, State.DemandWritten
          (State.modifyFan { s with link := v.link } i (fun f => { f with lockout := true })) i .none v ∧
          v.Held i .isolated none u ∧ t.fans = u.fans ∧ t.feeders = u.feeders))

/-- RESTORE (R117), in NORMAL and in FIRE: refused RANGE outside the fan count, STATE for a fan that is none of
TRIPPED, FAILED, locked out and expired or whose TRIP is active. Taken, it clears lockout, restart_used, exposure and
expired, keeps the last fault and the demand, and places a TRIPPED or FAILED fan, or an ISOLATED one with ISO
inactive, by R109; that the member record's expired flag follows at once is DEDUCED (notes/assumptions 13). A fan that
leaves FAILED with FB active and RUN off starts a fresh stuck-running timer, unless it is started at once (R106); that a
TRIPPED fan's timer runs on is DEDUCED (notes/assumptions 11). A member whose loss report still waits and whose placing
is a loss again (`lost`) leaves the duty set with that placing's own report (R69, R109, R113), which is taken at once,
the model's choice (notes/assumptions 24); any other member is only placed. -/
def Obligations.RestoreClearsTheFan : Prop :=
  ∀ (s : State) (fan : Byte), s.CanTake → s.line.mode = .normal ∨ s.line.mode = .fire →
    let i := fan.toNat
    let f := s.fan i
    let faulted : Prop := f.state = .tripped ∨ f.state = .failed
    let restorable : Prop := faulted ∨ f.lockout = true ∨ f.expired = true
    let leaves : Prop := faulted ∨ f.state = .isolated ∧ f.iso = false
    let lost : Prop := leaves ∧ s.isMember i = true ∧ (f.iso = true ∨ s.onDeadFeeder i = true)
    let cleared : LineController := { s.line with
      duty := s.line.duty.map (fun m => if m.fan = i then { m with expired := false } else m) }
    (s.fanCount ≤ i → exec (.restore [fan]) s = .next (s.replied (.refuse 0x22 .range))) ∧
    (i < s.fanCount → ¬ restorable ∨ f.trip = true →
      exec (.restore [fan]) s = .next (s.replied (.refuse 0x22 .state))) ∧
    (i < s.fanCount → restorable → f.trip = false → ∃ t, exec (.restore [fan]) s = .next t ∧
      State.FieldWork ((s.replied (.accept 0x22)).modifyFan i
        (fun f => { f with lockout := false, restartUsed := false, exposure := 0, expired := false })) t ∧
      t.Sends (s.link.tx ++ [.accept 0x22]) ∧
      (¬ lost → t.link.tx = s.link.tx ++ [.accept 0x22] ∧ t.events = s.events ∧ (t.fan i).demand = f.demand ∧
        t.line = cleared ∧ s.OthersOnlyStart i t) ∧
      (lost → t.isMember i = false ∧ (t.fan i).demand = .none) ∧
      (¬ leaves → (t.fan i).state = f.state) ∧
      (leaves → f.iso = true → (t.fan i).state = .isolated) ∧
      (leaves → f.iso = false → s.onDeadFeeder i = true → (t.fan i).state = .unpowered) ∧
      (leaves → f.iso = false → s.onDeadFeeder i = false → f.coastTimer < s.coastTime i →
        (t.fan i).state = .coasting ∧ (t.fan i).coastTimer = f.coastTimer) ∧
      (leaves → f.iso = false → s.onDeadFeeder i = false → s.coastTime i ≤ f.coastTimer → f.demand = .none →
        (t.fan i).state = .idle) ∧
      (leaves → f.iso = false → s.onDeadFeeder i = false → s.coastTime i ≤ f.coastTimer → f.demand ≠ .none →
        (t.fan i).state = .queued ∨ (t.fan i).run = true ∧ ∃ d, (t.fan i).state = .starting d (.ramp (s.startTime i))) ∧
      (f.run = false → (t.fan i).run = false → (t.fan i).stuckTimer =
        if f.state = .failed ∧ f.fb = true then some s.feedbackAllowance else f.stuckTimer) ∧
      (f.run = false → (t.fan i).run = true → (t.fan i).stuckTimer = none) ∧
      (leaves → ∃ v, State.Placed (State.modifyFan { s with link := v.link, line := cleared } i (fun f => { f with
          lockout := false, restartUsed := false, exposure := 0, expired := false
          stuckTimer := if f.state = .failed ∧ f.fb = true ∧ f.run = false then some s.feedbackAllowance
            else f.stuckTimer })) i v ∧ t.line = v.line ∧ t.fans = v.fans ∧ t.feeders = v.feeders ∧
          t.events.set = v.events.set ∧ t.events.mask = v.events.mask ∧ t.events.levels = v.events.levels))

/-! ### Fan events (Chapter 6) -/

/-- The end of a start that shows feedback (R99, R100, R101, R133, R134): FB becoming active in CONFIRM, or FB active
at the ramp's end, takes the fan to RUNNING in its running direction; its slot is free again, and the feeder, when
READY, starts its head entries, URGENT before ROUTINE, until none waits on a free slot. A ramp that ends without FB
passes to CONFIRM with the feedback allowance and keeps the slot. A ramp timer that does not run does not expire
(notes/assumptions 2). -/
def Obligations.StartEndsInRunningOrConfirm : Prop :=
  ∀ (s : State) (i : Fin 64), i.val < s.fanCount → s.events.ask = false →
    let f := s.fan i
    let started : Direction → State → Prop := fun d t =>
      (t.fan i).state = .running d ∧ (t.fan i).run = f.run ∧ (t.fan i).dirOut = f.dirOut ∧
      (t.fan i).demand = f.demand ∧ (t.fan i).coastTimer = f.coastTimer ∧
      State.FieldWork (s.modifyFan i (fun f => { f with fb := true })) t ∧ t.line = s.line ∧ t.events = s.events ∧
      t.link = s.link ∧
      s.OthersOnlyStart i t ∧
      (s.modifyFan i (fun f => { f with fb := true, state := .running d })).SlotFreed i t ∧
      (∀ n g, s.feederOf i = some n → s.feeders[n]? = some g → ∃ h, t.feeders[n]? = some h ∧
        (g.state ≠ .ready → h = { g with startingCount := g.startingCount - 1 }) ∧
        (g.state = .ready → h.startingCount < s.slots n → h.urgent = [] ∧ h.routine = []))
    (∀ d left, f.state = .starting d (.confirm left) → f.fb = false →
      ∃ t, exec (.fbActive i) s = .next t ∧ started d t) ∧
    (∀ d left, f.state = .starting d (.ramp left) → f.fb = true →
      ∃ t, exec (.rampTimerExpiry i) s = .next t ∧ started d t) ∧
    (∀ d left, f.state = .starting d (.ramp left) → f.fb = false → exec (.rampTimerExpiry i) s =
      .next (s.modifyFan i (fun f => { f with state := .starting d (.confirm s.feedbackAllowance) }))) ∧
    ((∀ d left, f.state ≠ .starting d (.ramp left)) → exec (.rampTimerExpiry i) s = .next s)

/-- The three causes of R105: TRIP becoming active in a working state, FB lost in RUNNING (R102), a confirm time that
ends without FB (R100). The fan enters TRIPPED, or FAILED if its restart_used is yes, with the cause as its last
fault; RUN is off and the coast timer restarts if RUN was on; FAN_FAULT is raised; the loss is reported (R113); no other
fan's history changes. The report taken at once, the fan is no member of the duty set any more, and for a lost member
the line is evaluated at once from the state with the fan held and removed (R54, R56, R69). The report left waiting, the
member stands in the duty set in its holding state, with its demand, until the report is taken (R57, R69): which of the
two it is, is a free value, the model's choice (notes/assumptions 24). TRIP in a holding state is recorded. That a TRIP
already active and the expiry of a confirm timer that does not run change nothing is the model's choice
(notes/assumptions 2). -/
def Obligations.FaultsEnterTrippedOrFailed : Prop :=
  ∀ (s : State) (i : Fin 64), i.val < s.fanCount → s.events.ask = false →
    let f := s.fan i
    let faulted : LastFault → (Fan → Fan) → State → Prop := fun cause input t =>
      (t.fan i).state = (if f.restartUsed then .failed else .tripped) ∧ (t.fan i).run = false ∧
      (t.fan i).dirOut = f.dirOut ∧ (t.fan i).coastTimer = (if f.run then 0 else f.coastTimer) ∧
      t.isMember i = (s.isMember i && s.reportWaits) ∧
      (s.isMember i = true → (t.fan i).demand = if s.reportWaits then f.demand else .none) ∧
      (s.isMember i = false → (t.fan i).demand = f.demand ∧ t.line = s.line ∧ s.OthersOnlyStart i t) ∧
      t.events.Shows .fanFault ∧ t.Sends s.link.tx ∧
      State.FieldWork ((s.nextFree.modifyFan i (fun f => { input f with lastFault := cause })).awaiting i s.reportWaits) t ∧
      ∃ u, (s.nextFree.modifyFan i input).Held i (if f.restartUsed then .failed else .tripped) (some cause) u ∧
        u.Reported i s.reportWaits t
    (f.trip = false → f.state.isWorking = true →
      ∃ t, exec (.tripActive i) s = .next t ∧ faulted .trip (fun f => { f with trip := true }) t) ∧
    (∀ d, f.state = .running d → f.fb = true →
      ∃ t, exec (.fbInactive i) s = .next t ∧
        faulted .uncommandedStop (fun f => { f with fb := false, stuckTimer := none }) t) ∧
    (∀ d left, f.state = .starting d (.confirm left) → f.fb = false →
      ∃ t, exec (.confirmTimerExpiry i) s = .next t ∧ faulted .failToStart id t) ∧
    (f.trip = false → f.state.isHolding = true →
      exec (.tripActive i) s = .next (s.modifyFan i (fun f => { f with trip := true }))) ∧
    (f.trip = true → exec (.tripActive i) s = .next s) ∧
    ((∀ d left, f.state ≠ .starting d (.confirm left)) → exec (.confirmTimerExpiry i) s = .next s)

/-- The expiry of a running stuck-running timer takes the fan to FAILED with last fault STUCK_RUNNING from whatever
state it is in; RUN is off, the timer is discarded, FAN_FAULT is raised and the loss is reported (R106, R113): at once,
the fan is then no member any more and for a lost member the line is evaluated (R54, R56, R69), or the report of a
member waits (R57, R69): a free value, the model's choice (notes/assumptions 24). A timer that does not run does not
expire: that the command then changes nothing is the model's choice (notes/assumptions 2). -/
def Obligations.StuckRunningEntersFailed : Prop :=
  ∀ (s : State) (i : Fin 64), i.val < s.fanCount → s.events.ask = false →
    let f := s.fan i
    (∀ left, f.stuckTimer = some left → ∃ t, exec (.stuckRunningTimerExpiry i) s = .next t ∧
      (t.fan i).state = .failed ∧ (t.fan i).run = false ∧ (t.fan i).stuckTimer = none ∧
      (f.run = false → (t.fan i).coastTimer = f.coastTimer) ∧ t.isMember i = (s.isMember i && s.reportWaits) ∧
      (s.isMember i = false → (t.fan i).demand = f.demand ∧ t.line = s.line ∧ s.OthersOnlyStart i t) ∧
      t.events.Shows .fanFault ∧ t.Sends s.link.tx ∧
      State.FieldWork ((s.nextFree.modifyFan i (fun f => { f with lastFault := .stuckRunning })).awaiting i s.reportWaits) t ∧
      ∃ u, s.nextFree.Held i .failed (some .stuckRunning) u ∧ u.Reported i s.reportWaits t) ∧
    (f.stuckTimer = none → exec (.stuckRunningTimerExpiry i) s = .next s)

/-- FB with no start and no run to judge (R99, R102, R106): FB becoming active with RUN off starts the stuck-running
timer at the feedback allowance, outside FAILED; with RUN on, outside CONFIRM, it is only recorded; FB becoming
inactive outside RUNNING is no fault and discards the timer. That a change to the level already held changes nothing
is the model's choice (notes/assumptions 2). -/
def Obligations.FeedbackRunsTheStuckTimer : Prop :=
  ∀ (s : State) (i : Fin 64), i.val < s.fanCount → s.events.ask = false →
    let f := s.fan i
    (f.fb = false → (∀ d left, f.state ≠ .starting d (.confirm left)) → f.run = false → f.state ≠ .failed →
      exec (.fbActive i) s =
        .next (s.modifyFan i (fun f => { f with fb := true, stuckTimer := some s.feedbackAllowance }))) ∧
    (f.fb = false → (∀ d left, f.state ≠ .starting d (.confirm left)) → f.run = true ∨ f.state = .failed →
      exec (.fbActive i) s = .next (s.modifyFan i (fun f => { f with fb := true }))) ∧
    (f.fb = true → (∀ d, f.state ≠ .running d) →
      exec (.fbInactive i) s = .next (s.modifyFan i (fun f => { f with fb := false, stuckTimer := none }))) ∧
    (f.fb = true → exec (.fbActive i) s = .next s) ∧ (f.fb = false → exec (.fbInactive i) s = .next s)

/-- ISO (R107, R110): becoming active it takes a fan in a working state to ISOLATED, with RUN off, and reports the loss
(R113): at once, the fan is then no member any more and for a lost member the line is evaluated (R54, R56, R69), or the
report of a member waits (R57, R69): a free value, the model's choice (notes/assumptions 24). In a holding state ISO is
recorded. Becoming inactive it releases an ISOLATED fan that is not locked out, which R109 places: UNPOWERED on a DEAD
feeder, TRIPPED or FAILED under an active TRIP, COASTING while its coast runs, else IDLE, or on to its queue with a run
demand; a member whose loss report still waits is taken for lost again only where the placing is a loss. That a change
to the level already held changes nothing is the model's choice (notes/assumptions 2). -/
def Obligations.IsolationMovesTheFan : Prop :=
  ∀ (s : State) (i : Fin 64), i.val < s.fanCount → s.events.ask = false →
    let f := s.fan i
    (f.iso = false → f.state.isWorking = true → ∃ t, exec (.isoActive i) s = .next t ∧
      (t.fan i).state = .isolated ∧ (t.fan i).run = false ∧
      (t.fan i).coastTimer = (if f.run then 0 else f.coastTimer) ∧ t.isMember i = (s.isMember i && s.reportWaits) ∧
      t.Sends s.link.tx ∧
      (s.isMember i = false → (t.fan i).demand = f.demand ∧ t.line = s.line ∧ s.OthersOnlyStart i t) ∧
      State.FieldWork ((s.nextFree.modifyFan i (fun f => { f with iso := true })).awaiting i s.reportWaits) t ∧
      ∃ u, (s.nextFree.modifyFan i (fun f => { f with iso := true })).Held i .isolated none u ∧ u.Reported i s.reportWaits t) ∧
    (f.iso = false → f.state.isHolding = true →
      exec (.isoActive i) s = .next (s.modifyFan i (fun f => { f with iso := true }))) ∧
    (f.iso = true → f.state ≠ .isolated ∨ f.lockout = true →
      exec (.isoInactive i) s = .next (s.modifyFan i (fun f => { f with iso := false }))) ∧
    (f.iso = true → f.state = .isolated → f.lockout = false → ∃ t, exec (.isoInactive i) s = .next t ∧
      State.FieldWork (s.modifyFan i (fun f => { f with
        iso := false
        lastFault := if s.onDeadFeeder i = false ∧ f.trip = true then .trip else f.lastFault })) t ∧
      (s.isMember i = false ∨ s.onDeadFeeder i = false ∧ f.trip = false →
        (t.fan i).demand = f.demand ∧ t.line = s.line ∧ s.OthersOnlyStart i t) ∧ t.Sends s.link.tx ∧
      (s.modifyFan i (fun f => { f with iso := false })).Placed i t ∧
      (s.onDeadFeeder i = true → (t.fan i).state = .unpowered) ∧
      (s.onDeadFeeder i = false → f.trip = true →
        (t.fan i).state = (if f.restartUsed then .failed else .tripped) ∧
        t.events.Shows .fanFault) ∧
      (s.onDeadFeeder i = false → f.trip = false → f.coastTimer < s.coastTime i →
        (t.fan i).state = .coasting ∧ (t.fan i).coastTimer = f.coastTimer) ∧
      (s.onDeadFeeder i = false → f.trip = false → s.coastTime i ≤ f.coastTimer → f.demand = .none →
        (t.fan i).state = .idle) ∧
      (s.onDeadFeeder i = false → f.trip = false → s.coastTime i ≤ f.coastTimer → f.demand ≠ .none →
        (t.fan i).state = .queued ∨ (t.fan i).run = true ∧
          ∃ d, (t.fan i).state = .starting d (.ramp (s.startTime i)))) ∧
    (f.iso = true → exec (.isoActive i) s = .next s) ∧ (f.iso = false → exec (.isoInactive i) s = .next s)

/-- The end of a coast (R104, R108, R112): a COASTING fan enters IDLE, and goes on to the end of its queue with
a run demand, where a grant is considered (R97, R130, R134); an
UNPOWERED fan whose feeder is READY is placed by R109; a TRIPPED fan outside FIRE, with TRIP active or with its
restart used, an UNPOWERED fan whose feeder is not READY, and every other fan only have their count at the coast time.
That the command puts the count there is the model's choice (notes/assumptions 2). -/
def Obligations.CoastEndReleasesTheFan : Prop :=
  ∀ (s : State) (i : Fin 64), i.val < s.fanCount → s.events.ask = false →
    let f := s.fan i
    let counted : Nat := max f.coastTimer (s.coastTime i)
    (f.state = .coasting → f.demand = .none → exec (.coastTimerExpiry i) s =
      .next (s.modifyFan i (fun f => { f with coastTimer := counted, state := .idle }))) ∧
    (f.state = .coasting → f.demand ≠ .none → ∃ t, exec (.coastTimerExpiry i) s = .next t ∧
      State.FieldWork s t ∧ t.line = s.line ∧ t.events = s.events ∧ t.link = s.link ∧
      (t.fan i).demand = f.demand ∧ (t.fan i).coastTimer = counted ∧ s.OthersOnlyStart i t ∧
      ((t.fan i).state = .queued ∨ (t.fan i).run = true ∧
        ∃ d, (t.fan i).state = .starting d (.ramp (s.startTime i))) ∧
      (∀ d c, f.demand = .run d c → (s.modifyFan i (fun f => { f with coastTimer := counted })).Joined i d c t)) ∧
    (f.state = .tripped → s.line.mode ≠ .fire → exec (.coastTimerExpiry i) s =
      .next (s.modifyFan i (fun f => { f with coastTimer := counted }))) ∧
    (f.state = .tripped → f.trip = true ∨ f.restartUsed = true → exec (.coastTimerExpiry i) s =
      .next (s.modifyFan i (fun f => { f with coastTimer := counted }))) ∧
    (f.state = .unpowered → s.onReadyFeeder i = true →
      ∃ t, exec (.coastTimerExpiry i) s = .next t ∧ t.Sends s.link.tx ∧
        (s.isMember i = false ∨ f.iso = false ∧ f.lockout = false ∧ f.trip = false →
          (t.fan i).demand = f.demand ∧ t.line = s.line ∧ s.OthersOnlyStart i t) ∧
        (f.run = false → (t.fan i).coastTimer = counted) ∧
        (s.modifyFan i (fun f => { f with coastTimer := counted })).Placed i t ∧
        State.FieldWork (s.modifyFan i (fun f => { f with
          lastFault := if f.iso = false ∧ f.lockout = false ∧ f.trip = true then .trip else f.lastFault })) t ∧
        (f.iso = true ∨ f.lockout = true → (t.fan i).state = .isolated) ∧
        (f.iso = false → f.lockout = false → f.trip = true →
          (t.fan i).state = (if f.restartUsed then .failed else .tripped) ∧ t.events.Shows .fanFault) ∧
        (f.iso = false → f.lockout = false → f.trip = false → f.demand = .none → (t.fan i).state = .idle) ∧
        (f.iso = false → f.lockout = false → f.trip = false → f.demand ≠ .none → (t.fan i).state = .queued ∨
          (t.fan i).run = true ∧ ∃ d, (t.fan i).state = .starting d (.ramp (s.startTime i)))) ∧
    (f.state = .unpowered → s.onReadyFeeder i = false → exec (.coastTimerExpiry i) s =
      .next (s.modifyFan i (fun f => { f with coastTimer := counted }))) ∧
    (f.state ≠ .coasting → f.state ≠ .tripped → f.state ≠ .unpowered → exec (.coastTimerExpiry i) s =
      .next (s.modifyFan i (fun f => { f with coastTimer := counted })))

/-- The one automatic restart (R107, R108, R109): in FIRE a TRIPPED fan with restart_used no leaves TRIPPED once TRIP is
inactive and its coast has ended, whichever comes last, with restart_used yes; holding NONE, not isolated, not locked
out and with its feeder not DEAD it waits in IDLE. Outside FIRE, or while the coast runs, TRIP becoming inactive is only
recorded. The restart at entry to FIRE is stated in ActivationEntersFire. That COAST_TIMER_EXPIRY puts the count at the
coast time, and that a TRIP already inactive changes nothing, is the model's choice (notes/assumptions 2). -/
def Obligations.AutomaticRestartIsOnce : Prop :=
  ∀ (s : State) (i : Fin 64), i.val < s.fanCount → s.events.ask = false →
    let f := s.fan i
    let restarted : State → Prop := fun t =>
      State.FieldWork (s.modifyFan i (fun f => { f with trip := false, restartUsed := true })) t ∧
      (s.isMember i = false → f.demand = .none → (∀ j, j ≠ i.val → t.fan j = s.fan j) ∧ t.feeders = s.feeders ∧
        (t.fan i).demand = .none ∧ t.line = s.line ∧ t.events = s.events ∧ t.link = s.link) ∧
      (s.isMember i = false → (t.fan i).demand = f.demand ∧ t.line = s.line ∧ t.events = s.events ∧ t.link = s.link ∧
        s.OthersOnlyStart i t) ∧
      (t.fan i).state ≠ .tripped ∧ t.Sends s.link.tx ∧
      (f.iso = true ∨ f.lockout = true → (t.fan i).state = .isolated) ∧
      (f.iso = false → f.lockout = false → s.onDeadFeeder i = true → (t.fan i).state = .unpowered) ∧
      (f.iso = false → f.lockout = false → s.onDeadFeeder i = false → f.demand = .none →
        (t.fan i).state = .idle ∧ (t.fan i).run = f.run) ∧
      (s.modifyFan i (fun f => { f with
        trip := false, restartUsed := true, coastTimer := max f.coastTimer (s.coastTime i) })).Placed i t
    (s.line.mode = .fire → f.state = .tripped → f.restartUsed = false → f.trip = true →
      s.coastTime i ≤ f.coastTimer → f.run = false → ∃ t, exec (.tripInactive i) s = .next t ∧ restarted t) ∧
    (s.line.mode = .fire → f.state = .tripped → f.restartUsed = false → f.trip = false → f.run = false →
      ∃ t, exec (.coastTimerExpiry i) s = .next t ∧ restarted t) ∧
    (f.trip = true → s.line.mode ≠ .fire ∨ f.state ≠ .tripped ∨ f.restartUsed = true ∨ f.coastTimer < s.coastTime i →
      exec (.tripInactive i) s = .next (s.modifyFan i (fun f => { f with trip := false }))) ∧
    (f.trip = false → exec (.tripInactive i) s = .next s)

/-! ### Feeders (Chapter 7) -/

/-- The transitions of R125 that touch nothing but the feeder's state and settle timer, with the two level conditions
taken afresh (R136): AVAIL active takes DEAD to HOLD or SETTLING, VLOW active takes SETTLING and READY to HOLD, VLOW
inactive takes HOLD to SETTLING, SETTLING always with the full settle time (R126). Where the table records the level, or
no feeder is installed (R123), only the input changes. That a change to the level already held changes nothing is the
model's choice (notes/assumptions 2). -/
def Obligations.FeederTransitionsFollowTheTable : Prop :=
  ∀ (s : State) (n : Fin 4), s.events.ask = false →
    let moved : (FeederInputs → FeederInputs) → FeederState → Option Nat → State → Prop := fun input dest timer t =>
      t.feeders = s.feeders.modify n (fun g => { g with state := dest, settleTimer := timer }) ∧
      t.feederInputs = s.feederInputs.modify n input ∧ t.fans = s.fans ∧ t.line = s.line ∧ t.image = s.image ∧
      t.air = s.air ∧ t.loader = s.loader ∧ t.pending = s.pending ∧ t.freeIndex = s.freeIndex ∧
      t.link.core = s.link.core ∧
      (∀ k : EventKind, k ≠ .feederHold → k ≠ .feederDead →
        t.events.set.getLsbD k.bit = s.events.set.getLsbD k.bit) ∧
      t.events.mask = s.events.mask ∧ t.Sends s.link.tx ∧
      t.events.levels = { s.events.levels with
        feederHold := t.feeders.any (fun g => decide (g.state = .hold ∨ g.state = .settling)),
        feederDead := t.feeders.any (fun g => decide (g.state = .dead)) } ∧
      (dest = .hold ∨ dest = .settling → n.val < s.feederCount → s.events.levels.feederHold = false →
        t.events.Shows .feederHold)
    (s.feederState n = some .dead → (s.inputs n).avail = false → ∃ t, exec (.availActive n) s = .next t ∧
      moved (fun x => { x with avail := true }) (if (s.inputs n).vlow then .hold else .settling)
        (if (s.inputs n).vlow then none else some (s.settleTime n)) t) ∧
    (s.feederState n = some .settling ∨ s.feederState n = some .ready → (s.inputs n).vlow = false →
      ∃ t, exec (.vlowActive n) s = .next t ∧ moved (fun x => { x with vlow := true }) .hold none t) ∧
    (s.feederState n = some .hold → (s.inputs n).vlow = true → ∃ t, exec (.vlowInactive n) s = .next t ∧
      moved (fun x => { x with vlow := false }) .settling (some (s.settleTime n)) t) ∧
    (s.feederState n = some .dead ∨ s.feederState n = none → (s.inputs n).vlow = false → exec (.vlowActive n) s =
      .next { s with feederInputs := s.feederInputs.modify n (fun x => { x with vlow := true }) }) ∧
    (s.feederState n = some .dead ∨ s.feederState n = none → (s.inputs n).vlow = true → exec (.vlowInactive n) s =
      .next { s with feederInputs := s.feederInputs.modify n (fun x => { x with vlow := false }) }) ∧
    (s.feederState n = none → (s.inputs n).avail = false → exec (.availActive n) s =
      .next { s with feederInputs := s.feederInputs.modify n (fun x => { x with avail := true }) }) ∧
    ((s.inputs n).avail = true → exec (.availActive n) s = .next s) ∧
    ((s.inputs n).vlow = true → exec (.vlowActive n) s = .next s) ∧
    ((s.inputs n).vlow = false → exec (.vlowInactive n) s = .next s)

/-- AVAIL becoming inactive takes an installed feeder to DEAD, its settle timer discarded (R125, R127), and leaves
none of its fans in a working state or TRIPPED: each is taken to UNPOWERED with RUN off and its loss is reported (R111,
R113). The fans are taken one by one in fan number order, the loss of each member reported, the member removed and the
line evaluated before the next fan is taken (R54, R56, R69, R111); only the report of the last may wait (R57, R69): a
free value, the model's choice (notes/assumptions 24). FEEDER_DEAD becomes true (R136). -/
def Obligations.DeadFeederTakesItsFans : Prop :=
  ∀ (s : State) (n : Fin 4), s.events.ask = false → (s.inputs n).avail = true →
    (∀ g, s.feeders[n.val]? = some g → g.state ≠ .dead → ∃ t, exec (.availInactive n) s = .next t ∧
      (let died := s.feeders.modify n (fun g => { g with state := .dead, settleTimer := none });
        State.FieldWork { s.nextFree with
          line := { s.line with reports := t.line.reports }
          feeders := died
          feederInputs := s.feederInputs.modify n (fun x => { x with avail := false })
          events := { s.events with levels := { s.events.levels with
            feederHold := died.any (fun g => decide (g.state = .hold ∨ g.state = .settling))
            feederDead := true } } } t) ∧
      (s.reportWaits = false → t.line.reports = s.line.reports) ∧
      (s.events.levels.feederDead = false → t.events.Shows .feederDead) ∧ t.Sends s.link.tx ∧
      (∀ i, i < s.fanCount → s.feederOf i = some n.val →
        ((s.fan i).state.isWorking = true ∨ (s.fan i).state = .tripped →
          (t.fan i).state = .unpowered ∧ (t.fan i).run = false ∧
          (t.isMember i = false ∨ s.reportWaits = true ∧ t.line.reports = s.line.reports ++ [i])) ∧
        ((s.fan i).state = .failed ∨ (s.fan i).state = .isolated ∨ (s.fan i).state = .unpowered →
          (t.fan i).state = (s.fan i).state ∧ (t.fan i).run = (s.fan i).run)) ∧
      ∃ path : Nat → State, (path 0).line = s.line ∧ (path 0).fans = s.fans ∧ (path 0).image = s.image ∧
        (path 0).feeders = s.feeders.modify n (fun g => { g with state := .dead, settleTimer := none }) ∧
        s.events.FeederLevels (path 0).feeders (path 0).events ∧
        (∀ i, i < s.fanCount →
          let taken : Nat → Prop := fun j => s.feederOf j = some n.val ∧
            (((path i).fan j).state.isWorking = true ∨ ((path i).fan j).state = .tripped)
          (taken i → ∃ u, (path i).Held i .unpowered none u ∧
            ((∃ j, i < j ∧ j < s.fanCount ∧ taken j) → u.LossTaken i (path (i + 1))) ∧
            ((∀ j, i < j → j < s.fanCount → ¬ taken j) → u.Reported i s.reportWaits (path (i + 1)))) ∧
          (¬ taken i → path (i + 1) = path i)) ∧
        t.line = (path s.fanCount).line ∧ t.fans = (path s.fanCount).fans ∧
        t.feeders = (path s.fanCount).feeders ∧ t.events.set = (path s.fanCount).events.set ∧
        t.events.mask = (path s.fanCount).events.mask ∧ t.events.levels = (path s.fanCount).events.levels) ∧
    (s.feederState n = none ∨ s.feederState n = some .dead → exec (.availInactive n) s =
      .next { s with feederInputs := s.feederInputs.modify n (fun x => { x with avail := false }) })

/-- The settle timer's expiry takes a SETTLING feeder to READY and fills its free slots from the head of the queue:
afterwards no entry waits on a free slot (R128, R129, R134). Then its UNPOWERED fans whose coast has ended are placed by
R109, one by one in fan number order, and the others stay UNPOWERED (R112, R128). No other fan and no other feeder is
changed, unless one of them is a member whose loss report still waits (notes/assumptions 24) and is lost again. The two
level conditions are taken afresh (R136). That the command changes nothing for a
feeder that is not SETTLING, which has no settle timer to expire (R126), is the model's choice (notes/assumptions 2).
-/
def Obligations.SettledFeederGrantsItsSlots : Prop :=
  ∀ (s : State) (n : Fin 4), s.events.ask = false →
    (s.RecordsOk → s.feederState n = some .settling → ∃ t g, exec (.settleTimerExpiry n) s = .next t ∧
        t.feeders[n.val]? = some g ∧ g.state = .ready ∧ g.settleTimer = none ∧
        (g.startingCount < s.slots n → g.urgent = [] ∧ g.routine = []) ∧
        (∃ (ready : State) (path : Nat → State), ready = { s with
            feeders := s.feeders.modify n (fun g => { g with state := .ready, settleTimer := none })
            events := ready.events } ∧
          s.events.FeederLevels ready.feeders ready.events ∧ ready.GrantsMade n (path 0) ∧
          (∀ i, i < s.fanCount →
            let placed := s.feederOf i = some n.val ∧ ((path i).fan i).state = .unpowered ∧
              s.coastTime i ≤ ((path i).fan i).coastTimer
            (placed → (path i).Placed i (path (i + 1))) ∧ (¬ placed → path (i + 1) = path i)) ∧
          t.line = (path s.fanCount).line ∧ t.fans = (path s.fanCount).fans ∧
          t.feeders = (path s.fanCount).feeders ∧ t.events.set = (path s.fanCount).events.set ∧
          t.events.levels = (path s.fanCount).events.levels) ∧
        (∀ i, i < s.fanCount → s.feederOf i = some n.val → (s.fan i).state = .unpowered →
          let f := s.fan i
          (f.coastTimer < s.coastTime i → (t.fan i).state = .unpowered) ∧
          (s.coastTime i ≤ f.coastTimer →
            (f.iso = true ∨ f.lockout = true → (t.fan i).state = .isolated) ∧
            (f.iso = false → f.lockout = false → f.trip = true →
              (t.fan i).state = (if f.restartUsed then .failed else .tripped) ∧ (t.fan i).lastFault = .trip ∧
              t.events.Shows .fanFault))) ∧
        ((∀ i, s.feederOf i = some n.val → (s.fan i).state = .unpowered → s.isMember i = false) →
          t.line = s.line ∧
          (∀ i, i < s.fanCount → s.feederOf i = some n.val → (s.fan i).state = .unpowered →
            let f := s.fan i
            (t.fan i).demand = f.demand ∧ (f.coastTimer < s.coastTime i → t.fan i = f) ∧
            (s.coastTime i ≤ f.coastTimer → f.iso = false → f.lockout = false → f.trip = false →
              (f.demand = .none → (t.fan i).state = .idle) ∧
              (f.demand ≠ .none → (t.fan i).state = .queued ∨
                (t.fan i).run = true ∧ ∃ d, (t.fan i).state = .starting d (.ramp (s.startTime i))))) ∧
          (∀ i, (s.fan i).state ≠ .queued → (s.feederOf i = some n.val → (s.fan i).state ≠ .unpowered) →
            t.fan i = s.fan i) ∧
          (s.QueuesOk → ∀ i, s.feederOf i ≠ some n.val → t.fan i = s.fan i) ∧
          (∀ k, k ≠ n.val → t.feeders[k]? = s.feeders[k]?) ∧
          t.events.levels = { s.events.levels with
            feederHold := t.feeders.any (fun g => decide (g.state = .hold ∨ g.state = .settling))
            feederDead := t.feeders.any (fun g => decide (g.state = .dead)) }) ∧
        t.image = s.image ∧ t.air = s.air ∧ t.loader = s.loader ∧ t.pending = s.pending ∧
        t.events.mask = s.events.mask ∧ t.feederInputs = s.feederInputs ∧ t.fanCount = s.fanCount ∧
        t.Sends s.link.tx) ∧
    (s.feederState n ≠ some .settling → exec (.settleTimerExpiry n) s = .next s)

/-! ### Airflow (Chapter 8) -/

/-- The lines of an installed channel while the window timer runs (R143, R145): a pulse within the limits raises the
count, which stays at 65,535; a change of DIR and a loss of HEALTH are recorded for the window. While the timer is
stopped nothing changes. Beyond the limits a pulse is counted or not, whichever free value decides (notes/assumptions
3). -/
def Obligations.LinesActInTheRunningWindow : Prop :=
  ∀ (s : State) (n : Fin 16) (w : Nat), s.air.windowTimer = some w →
    let changed : (Channel → Channel) → State := fun f =>
      { s with air := { s.air with channels := s.air.channels.modify n f } }
    let pulse : Channel → Channel := fun c => { c with pulseCount := min 65535 (c.pulseCount + 1) }
    exec (.pulse n true) s = .next (changed pulse) ∧
    (exec (.pulse n false) s = .next { changed pulse with freeIndex := s.freeIndex + 1 } ∨
      exec (.pulse n false) s = .next { s with freeIndex := s.freeIndex + 1 }) ∧
    exec (.anemometerDirChange n) s = .next (changed (fun c => { c with
      dirLine := (match c.dirLine with | .forward => .reverse | .reverse => .forward), dirChanged := true })) ∧
    exec (.healthLost n) s = .next (changed (fun c => { c with healthLine := false, healthLost := true })) ∧
    exec (.pulse n true) { s with air := { s.air with windowTimer := none } } =
      .next { s with air := { s.air with windowTimer := none } } ∧
    exec (.anemometerDirChange n) { s with air := { s.air with windowTimer := none } } =
      .next { s with air := { s.air with windowTimer := none } } ∧
    exec (.healthLost n) { s with air := { s.air with windowTimer := none } } =
      .next { s with air := { s.air with windowTimer := none } }

/-- The window end (R145 to R150, R154): every installed channel's ring takes the sample of the window at its newest
end, four samples at most; the sample's velocity, sign and quality are those of the scaling, the clamp and the quality
table; the channel's velocity is the mean, toward zero, of its usable samples when there are at least two; the next
window begins clear. vm is formed from that snapshot: in NORMAL the mean of all valid channels, in FIRE that of the
cold side in the active direction (R151, R152). AIRFLOW_FAULT holds while some newest sample is UNHEALTHY or
AMBIGUOUS. The window end is counted, and the M-th makes a boundary that will read the vm just published (R75, R77,
R146). Nothing else changes. With the timer stopped there is no window end (R144). -/
def Obligations.WindowEndTakesTheSnapshot : Prop :=
  ∀ (s : State) (m : LineImage) (w : Nat) (health : BitVec 16), s.image = some m → s.air.windowTimer = some w →
    s.events.ask = false → ∃ t, exec (.windowEnd health) s = .next t ∧
      t.air.windowTimer = some 0 ∧ t.air.channels.length = s.air.channels.length ∧
      (∀ (n : Nat) (c : Channel) (st : ChannelStatic), s.air.channels[n]? = some c → m.channels[n]? = some st →
        ∃ (c' : Channel) (x : Sample), t.air.channels[n]? = some c' ∧
          let magnitude := c.pulseCount * 100 / (m.tunnel.windowSeconds * st.scale)
          let dir := if c.dirChanged then c.dirLine else c.startDir
          x.velocity = (if dir = .forward then 1 else -1) * ((min magnitude st.vmax : Nat) : Int) ∧
          x.quality = (if c.healthLost then .unhealthy else if c.dirChanged then .ambiguous
            else if st.vmax < magnitude ∨ c.pulseCount = 65535 then .overrange else .good) ∧
          c'.ring = (if c.ring.length < 4 then c.ring else c.ring.drop (c.ring.length - 3)) ++ [x] ∧
          (let usable := (c'.ring.filter (fun x => decide (x.quality = .good ∨ x.quality = .overrange))).map
              (fun x => x.velocity);
            c'.velocity = if 2 ≤ usable.length then some (usable.sum.tdiv usable.length) else none) ∧
          c'.pulseCount = 0 ∧ c'.startDir = c.dirLine ∧ c'.dirLine = c.dirLine ∧ c'.dirChanged = false ∧
          c'.healthLine = health.getLsbD n ∧ c'.healthLost = !health.getLsbD n) ∧
      (s.line.mode = .normal → t.air.vm = meanTowardZero (t.air.channels.filterMap (fun c => c.velocity))) ∧
      (∀ sc, s.line.mode = .fire → s.line.scenario = some sc → t.air.vm = coldSideVm t.air.channels m sc) ∧
      t.events.levels = { s.events.levels with
        feedbackLost := decide (s.line.mode = .fire) && t.air.vm.isNone
        airflowFault := t.air.channels.any (fun c => match c.ring.getLast? with
          | some x => decide (x.quality = .unhealthy ∨ x.quality = .ambiguous) | none => false) } ∧
      (s.events.levels.feedbackLost = false → t.events.levels.feedbackLost = true → t.events.Shows .feedbackLost) ∧
      (s.events.levels.airflowFault = false → t.events.levels.airflowFault = true → t.events.Shows .airflowFault) ∧
      (∀ k : EventKind, k ≠ .feedbackLost → k ≠ .airflowFault →
        t.events.set.getLsbD k.bit = s.events.set.getLsbD k.bit) ∧
      t.line = (if s.line.counting = false then s.line
        else if s.line.windowCount + 1 < m.tunnel.windowsPerPeriod then
          { s.line with windowCount := s.line.windowCount + 1 }
        else { s.line with windowCount := 0, boundaryDue := some t.air.vm }) ∧
      t.fans = s.fans ∧ t.feeders = s.feeders ∧ t.image = s.image ∧ t.loader = s.loader ∧ t.pending = s.pending ∧
      t.feederInputs = s.feederInputs ∧ t.link.core = s.link.core ∧ t.events.mask = s.events.mask ∧
      t.freeIndex = s.freeIndex ∧ t.Sends s.link.tx ∧
      exec (.windowEnd health) { s with air := { s.air with windowTimer := none } } =
        .next { s with air := { s.air with windowTimer := none } }

/-! ### The control period (Chapter 5) -/

/-- A boundary in FIRE (R77): every hot-side fan's exposure rises by M × W, saturating, and a fan that reaches its
rating expires with FAN_EXPIRED (R71, R72), no other fan's history changes; the pending target and full-thrust value
become active and are cleared (R78, R79); the trim step is taken exactly when full thrust is then inactive, vm is
available and the line is settled (R83, R84), with the arithmetic of R85 against the target just made active;
membership changed becomes no (R87); and the line is evaluated from the state that these four steps leave, with the
required thrust of the figures now in effect (R25, R56). In NORMAL a boundary changes nothing but the counter, which
the window end has returned to 0 (R75, R76). A boundary that a STAND_DOWN has overtaken only has its window end
counted, from the zero which the stand-down set, and takes no step of a new fire (R89). That a boundary no window end
has made is taken as the counter reaching M now is the model's choice (notes/assumptions 2, 6). -/
def Obligations.BoundaryInFireTakesItsSteps : Prop :=
  (∀ (s : State) (m : LineImage) (sc : Scenario) (k : FireClass) (vm : Option Int), s.events.ask = false →
    s.image = some m → s.line.mode = .fire → s.line.scenario = some sc →
    s.line.boundaryDue = some vm → s.line.overtaken = false → m.classes[sc.fireClass]? = some k →
    s.fanCount = m.fans.length →
    ∃ (u t : State) (mid now : Scenario), exec .controlPeriodBoundary s = .next t ∧ u.EvaluatedFrom t ∧
      u = { s with
        line := { s.line with
          boundaryDue := none
          scenario := some mid
          duty := s.line.duty.map (fun x => if (s.fan x.fan).expired = false ∧ (t.fan x.fan).expired = true then
            { x with expired := true, counted := 0 } else x) }
        fans := u.fans
        events := u.events } ∧
      u.fanCount = s.fanCount ∧
      (∀ i, u.fan i = { s.fan i with exposure := (t.fan i).exposure, expired := (t.fan i).expired }) ∧
      u.events.mask = s.events.mask ∧ u.events.levels = s.events.levels ∧
      (∀ k : EventKind, k ≠ .fanExpired → u.events.set.getLsbD k.bit = s.events.set.getLsbD k.bit) ∧
      mid = { sc with
        target := sc.pendingTarget.getD sc.target
        pendingTarget := none
        fullThrust := sc.pendingFullThrust.getD sc.fullThrust
        pendingFullThrust := none
        trim := now.trim
        lowCount := now.lowCount
        highCount := now.highCount
        membershipChanged := false } ∧
      now = { mid with
        required := now.required, membershipChanged := now.membershipChanged, shortfall := now.shortfall } ∧
      State.LineWork s t ∧ t.Sends s.link.tx ∧
      t.line.mode = .fire ∧ t.line.scenario = some now ∧ t.air.vm = s.air.vm ∧
      t.events.levels.feedbackLost = s.events.levels.feedbackLost ∧
      t.line.boundaryDue = none ∧ t.line.windowCount = s.line.windowCount ∧ t.line.reports = s.line.reports ∧
      now.required = requiredThrust m.tunnel k.firePressure now.target sc.trainLength ∧
      (let settled := s.line.duty ≠ [] ∧ sc.membershipChanged = false ∧
          ∀ x ∈ s.line.duty, ∃ d, (s.fan x.fan).state = .running d
        let low := if sc.pendingTarget = none then sc.lowCount else 0
        let high := if sc.pendingTarget = none then sc.highCount else 0
        (now.fullThrust = true ∨ vm = none ∨ ¬ settled →
          now.trim = sc.trim ∧ now.lowCount = low ∧ now.highCount = high) ∧
        (∀ v, now.fullThrust = false → vm = some v → settled →
          let e : Int := v - now.target
          let band : Int := m.tunnel.trimBand
          (e < -band → low = 0 → now.trim = sc.trim ∧ now.lowCount = 1 ∧ now.highCount = 0) ∧
          (e < -band → low = 1 → now.trim = (if sc.trim < 8 then sc.trim + 1 else sc.trim) ∧ now.lowCount = 0 ∧
            now.highCount = 0) ∧
          (band < e → high = 0 → now.trim = sc.trim ∧ now.highCount = 1 ∧ now.lowCount = 0) ∧
          (band < e → high = 1 → now.trim = (if -8 < sc.trim then sc.trim - 1 else sc.trim) ∧ now.highCount = 0 ∧
            now.lowCount = 0) ∧
          (-band ≤ e → e ≤ band → now.trim = sc.trim ∧ now.lowCount = 0 ∧ now.highCount = 0))) ∧
      (∀ i f, m.fans[i]? = some f →
        let hot := match sc.direction with
          | .forward => sc.chainage ≤ f.chainage
          | .reverse => f.chainage ≤ sc.chainage
        let exposure := min 65535 ((s.fan i).exposure + m.tunnel.windowsPerPeriod * m.tunnel.windowSeconds)
        (t.fan i).restartUsed = (s.fan i).restartUsed ∧
        (¬ hot → (t.fan i).exposure = (s.fan i).exposure ∧ (t.fan i).expired = (s.fan i).expired) ∧
        (hot → (t.fan i).exposure = exposure ∧
          ((t.fan i).expired = true ↔ (s.fan i).expired = true ∨ f.heatRating * 60 ≤ exposure) ∧
          ((s.fan i).expired = false → (t.fan i).expired = true → t.events.Shows .fanExpired)))) ∧
  (∀ (s : State) (m : LineImage), s.image = some m → s.line.mode = .normal ∨ s.line.mode = .fire →
    s.line.overtaken = true → s.line.counting = true → exec .controlPeriodBoundary s = .next { s with line :=
      if s.line.windowCount + 1 < m.tunnel.windowsPerPeriod then
        { s.line with overtaken := false, windowCount := s.line.windowCount + 1 }
      else { s.line with overtaken := false, windowCount := 0, boundaryDue := some s.air.vm } }) ∧
  ∀ s : State, s.line.mode = .normal → s.line.overtaken = false →
    (∀ vm, s.line.boundaryDue = some vm → exec .controlPeriodBoundary s =
      .next { s with line := { s.line with boundaryDue := none } }) ∧
    (s.line.boundaryDue = none → exec .controlPeriodBoundary s =
      .next { s with line := { s.line with windowCount := 0 } })

/-! ### The thrust balance, the preference list and the evaluation (Chapters 1 to 4) -/

/-- The five positions of R10: for a window that holds the fire, every chainage is cold, hot, or on neither side, and
excluded exactly inside the closed window; upstream of the window it is cold, in the window upstream of the fire on
neither side, at and downstream of the fire hot. -/
def Obligations.EveryChainageHasItsPosition : Prop :=
  ∀ (sc : Scenario) (x : Nat), sc.windowLow ≤ sc.chainage → sc.chainage ≤ sc.windowHigh →
    (sc.excludes x = true ↔ sc.windowLow ≤ x ∧ x ≤ sc.windowHigh) ∧
    (sc.direction = .forward →
      (x < sc.windowLow → sc.sideOf x = .cold) ∧ (sc.windowLow ≤ x → x < sc.chainage → sc.sideOf x = .neither) ∧
      (sc.chainage ≤ x → sc.sideOf x = .hot)) ∧
    (sc.direction = .reverse →
      (sc.windowHigh < x → sc.sideOf x = .cold) ∧ (sc.chainage < x → x ≤ sc.windowHigh → sc.sideOf x = .neither) ∧
      (x ≤ sc.chainage → sc.sideOf x = .hot)) ∧
    (sc.sideOf x = .cold → sc.excludes x = false) ∧ (sc.sideOf x = .neither → sc.excludes x = true)

/-- The five stages of the required thrust, with the ranges that the image's and the scenario's ranges give them;
stage 5 is rounded up, T_req is 0 exactly when the total pressure is 0, and the resistance is 0 whenever the loss
factor is. -/
def Obligations.RequiredThrustStages : Prop :=
  ∀ (t : Tunnel) (firePressure target trainLength : Nat),
    (200 ≤ t.crossSection ∧ t.crossSection ≤ 1500) → t.baseLoss ≤ 10000 → t.trainLoss ≤ 1000 →
    (1000 ≤ t.density ∧ t.density ≤ 1300) → t.windAllowance ≤ 200 → firePressure ≤ 500 →
    (100 ≤ target ∧ target ≤ 600) → trainLength ≤ 1000 →
    ∃ q kh pr ptot : Nat, q = t.density * target ^ 2 / 20000 ∧ (500 ≤ q ∧ q ≤ 23400) ∧
      t.density * target ^ 2 ≤ 468000000 ∧
      t.trainLoss * trainLength / 100 ≤ 10000 ∧ kh = t.baseLoss + t.trainLoss * trainLength / 100 ∧ kh ≤ 20000 ∧
      pr = kh * q / 100 ∧ pr ≤ 4680000 ∧ (kh = 0 → pr = 0) ∧
      ptot = pr + 1000 * firePressure + 1000 * t.windAllowance ∧ ptot ≤ 5380000 ∧
      ptot * t.crossSection ≤ 8070000000 ∧
      10000 * requiredThrust t firePressure target trainLength < ptot * t.crossSection + 10000 ∧
      ptot * t.crossSection ≤ 10000 * requiredThrust t firePressure target trainLength ∧
      requiredThrust t firePressure target trainLength ≤ 807000 ∧
      (requiredThrust t firePressure target trainLength = 0 ↔ ptot = 0) ∧
      (ptot = 0 ↔ kh = 0 ∧ firePressure = 0 ∧ t.windAllowance = 0)

/-- The five stages of a fan's counted thrust, with their ranges: installed thrust, slip with its quotient rounded up,
slip-reduced thrust, direction stage, smoke stage; an expired fan counts 0, and no fan more than its rated thrust. -/
def Obligations.CountedThrustStages : Prop :=
  ∀ (t : Tunnel) (f : FanStatic) (target : Nat) (d : Direction) (side : Side),
    (200 ≤ t.jetVelocity ∧ t.jetVelocity ≤ 450) → (50 ≤ t.smokeDerating ∧ t.smokeDerating ≤ 100) →
    (100 ≤ f.ratedThrust ∧ f.ratedThrust ≤ 4000) → (50 ≤ f.installation ∧ f.installation ≤ 100) →
    (50 ≤ f.reverseRatio ∧ f.reverseRatio ≤ 100) → (100 ≤ target ∧ target ≤ 600) →
    (∃ a quotient slip b c e : Nat, a = f.ratedThrust * f.installation / 100 ∧ (50 ≤ a ∧ a ≤ 4000) ∧
      target * 100 ≤ quotient * t.jetVelocity ∧ quotient * t.jetVelocity < target * 100 + t.jetVelocity ∧
      (23 ≤ quotient ∧ quotient ≤ 300) ∧ slip + quotient = 1000 ∧ (700 ≤ slip ∧ slip ≤ 977) ∧
      b = a * slip / 1000 ∧ (35 ≤ b ∧ b ≤ 3908) ∧
      c = (if d = f.primary then b else b * f.reverseRatio / 100) ∧ (17 ≤ c ∧ c ≤ 3908) ∧
      e = (if side = .hot then c * t.smokeDerating / 100 else c) ∧ (8 ≤ e ∧ e ≤ 3908) ∧ e ≤ f.ratedThrust ∧
      countedThrust t f target d side false = e) ∧
    countedThrust t f target d side true = 0

/-- The plan in use is the first in image order whose direction is d and whose closed range holds the fire chainage, and
DEFAULT when there is none (R38, R39). The preference list holds no fan twice (R42), no excluded fan (R43) and only fans
of the image; with DEFAULT or an OPEN plan it holds every fan that is not excluded (R45). A plan's list is the walks of
its descriptors, one after another, each count positions up or down the fan numbers or to the end of the table, which
also ends a longer walk, then for an OPEN plan the default order, each usable fan at its first place (R40 to R45). -/
def Obligations.PreferenceListHoldsUsableFansOnce : Prop :=
  ∀ (sc : Scenario) (plans : List Plan) (chainages : List Nat),
    let fits := fun (p : Plan) => p.direction = sc.direction ∧ p.lo ≤ sc.chainage ∧ sc.chainage ≤ p.hi
    let resolved := resolvePreference sc plans chainages
    (∀ n, resolved.1 = some n ↔
      ∃ p, plans[n]? = some p ∧ fits p ∧ ∀ j q, j < n → plans[j]? = some q → ¬ fits q) ∧
    (resolved.1 = none ↔ ∀ p ∈ plans, ¬ fits p) ∧
    (sc.windowLow ≤ sc.chainage → sc.chainage ≤ sc.windowHigh →
      (∀ p ∈ plans, ∀ x ∈ p.descriptors, x.first < chainages.length) →
      resolved.2.Nodup ∧ (∀ i ∈ resolved.2, ∃ x, chainages[i]? = some x ∧ sc.excludes x = false) ∧
      (∀ i x, chainages[i]? = some x → sc.excludes x = false →
        (resolved.1 = none ∨ ∃ n p, resolved.1 = some n ∧ plans[n]? = some p ∧ p.isOpen = true) → i ∈ resolved.2) ∧
      (let walk : Descriptor → List Nat := (fun x =>
          let count := if x.count = 0 then chainages.length else x.count
          if x.down then (List.range (min count (x.first + 1))).map (fun k => x.first - k)
          else (List.range (min count (chainages.length - x.first))).map (fun k => x.first + k));
        let usable : Nat → Bool := (fun i => match chainages[i]? with
          | some x => !sc.excludes x
          | none => false);
        (∀ n p, resolved.1 = some n → plans[n]? = some p → resolved.2 =
          ((p.descriptors.flatMap walk ++ if p.isOpen then defaultOrder sc chainages else []).filter usable).eraseDups) ∧
        (resolved.1 = none → resolved.2 = defaultOrder sc chainages)))

/-- The default order (R46): every cold-side fan before every hot-side one; on one side the greater distance from the
fire first, and at the same distance the lower number. It holds exactly the fans that are not excluded. -/
def Obligations.DefaultOrderIsFarthestFirst : Prop :=
  ∀ (sc : Scenario) (chainages : List Nat), sc.windowLow ≤ sc.chainage → sc.chainage ≤ sc.windowHigh →
    let place := fun (i : Nat) => chainages.getD i 0
    let distance := fun (i : Nat) => max (place i) sc.chainage - min (place i) sc.chainage
    (defaultOrder sc chainages).Pairwise (fun i j =>
      sc.sideOf (place i) = .cold ∧ sc.sideOf (place j) = .hot ∨
      sc.sideOf (place i) = sc.sideOf (place j) ∧
        (distance j < distance i ∨ distance i = distance j ∧ i < j)) ∧
    ∀ i, i ∈ defaultOrder sc chainages ↔ i < chainages.length ∧ sc.excludes (place i) = false

/-- The evaluation stores the required thrust of the figures in effect (R25, R57). Without full thrust and with t not
negative, either its non-expired members count at least that thrust, or it reports a shortfall and has taken every
candidate (R60 to R64). Under full thrust it takes every candidate with reason FULL, releases no usable member, and
reports a shortfall exactly when the non-expired members count less than that thrust (R59, R65). Every member it
leaves is usable and carries its thrust in the figures in effect (R29, R57, R58). Reasons, size and releases, with a
negative t, are stated in EvaluationSizesTheDutySet. -/
def Obligations.EvaluationMeetsTheNeedOrReportsShortfall : Prop :=
  ∀ (s : State) (sc : Scenario), s.DutyOk → s.line.scenario = some sc →
    ∃ now, s.evaluate.line.scenario = some now ∧ now.required = s.requiredFor sc ∧
      (sc.fullThrust = false → 0 ≤ sc.trim →
        (now.shortfall = false → now.required ≤ countedSum (nonExpired s.evaluate.line.duty)) ∧
        (now.shortfall = true → ∀ i ∈ sc.preference, s.evaluate.isCandidate sc i = false)) ∧
      (sc.fullThrust = true → (∀ i ∈ sc.preference, s.evaluate.isCandidate sc i = false) ∧
        (∀ i, s.isMember i = true → (s.fan i).state.isWorking = true → s.evaluate.isMember i = true) ∧
        (∀ x ∈ s.evaluate.line.duty, s.isMember x.fan = false → x.reason = .full) ∧
        (now.shortfall = true ↔ countedSum (nonExpired s.evaluate.line.duty) < now.required)) ∧
      (∀ x ∈ s.evaluate.line.duty, (s.fan x.fan).state.isWorking = true ∧
        x.counted = s.countedFor sc x.fan ∧ x.expired = (s.fan x.fan).expired)

/-- What an evaluation makes of the duty set (R56 to R65), from the members whose fans are usable and the candidates
in list order. Under full thrust every candidate joins with reason FULL. Otherwise candidates join with reason NEED
while the non-expired members count less than the required thrust; k is the length of their shortest start that meets
it, and all of them when none does, which is the shortfall. The size D is k + Nred + t, at least 1 and at most the
non-expired members and candidates there are. Up to D further candidates join, the first Nred beyond k as REDUNDANT,
the rest as TRIM; or the last-joined non-expired members are released down to D, whatever their reasons. Any join or
departure, that of a fan that joins and is released again too, sets membership changed and raises DUTY_CHANGE; who
joins holds RUN d of class URGENT, who leaves holds NONE (R53, R54). These demands, and no others, are written one
after another: to the members lost, to who joins in the order of joining, to who is released the last joined first
(R57, R64, R135). The lost, in holding states, only store it, so that their order, here the join order, changes
nothing. -/
def Obligations.EvaluationSizesTheDutySet : Prop :=
  ∀ (s : State) (sc : Scenario) (m : LineImage), s.DutyOk → s.line.scenario = some sc → s.image = some m →
    let entry := fun (x : Member) => (x.fan, x.reason)
    let before := s.line.duty.map entry
    let swept := before.filter (fun x => (s.fan x.1).state.isWorking)
    let live := fun (l : List (Nat × JoinReason)) => l.filter (fun x => !(s.fan x.1).expired)
    let thrust := fun (l : List Nat) => (l.map (fun i => s.countedFor sc i)).sum
    let candidates := sc.preference.filter (fun i => decide (i < s.fanCount) && !s.isMember i && !s.fanExcluded sc i
      && !(s.fan i).expired && (s.fan i).state.isWorking)
    let result := s.evaluate.line.duty.map entry
    let lost := (before.filter (fun x => !(s.fan x.1).state.isWorking)).map (fun x => x.1)
    let writes := fun (joined released : List Nat) => ∃ v, State.DemandsWritten (lost.map (fun i => (i, .none)) ++
      joined.map (fun i => (i, .run sc.direction .urgent)) ++ released.map (fun i => (i, .none))) s v ∧
        s.evaluate.fans = v.fans ∧ s.evaluate.feeders = v.feeders
    ∃ now, s.evaluate.line.scenario = some now ∧
      (sc.fullThrust = true → writes candidates [] ∧ result = swept ++ candidates.map (fun i => (i, .full)) ∧
        now.membershipChanged = (sc.membershipChanged || decide (result ≠ before))) ∧
      (sc.fullThrust = false → ∃ (needed rest : List Nat) (k : Nat), candidates = needed ++ rest ∧
        let line := swept ++ needed.map (fun i => (i, .need))
        let fans := (live line).map (fun x => x.1)
        let size : Nat := if fans.length + rest.length = 0 then 0
          else min (fans.length + rest.length) (max 1 ((k : Int) + m.tunnel.redundancy + sc.trim)).toNat
        now.membershipChanged = (sc.membershipChanged || decide (swept ≠ before ∨ needed ≠ [] ∨ result ≠ line)) ∧
        (swept ≠ before ∨ needed ≠ [] → s.evaluate.events.Shows .dutyChange) ∧
        (needed ≠ [] → thrust fans.dropLast < now.required) ∧ (rest ≠ [] → now.required ≤ thrust fans) ∧
        (now.shortfall = true ↔ thrust fans < now.required) ∧
        k ≤ fans.length ∧ (∀ j, j < k → thrust (fans.take j) < now.required) ∧
        (now.required ≤ thrust (fans.take k) ∨ k = fans.length) ∧
        (fans.length ≤ size → writes (needed ++ rest.take (size - fans.length)) []) ∧
        (size < fans.length → writes needed (fans.drop size).reverse) ∧
        (fans.length ≤ size → result = line ++ ((rest.take (size - fans.length)).zipIdx (fans.length + 1)).map
          (fun p => (p.1, if p.2 - k ≤ m.tunnel.redundancy then .redundant else .trim))) ∧
        (size < fans.length → live result = (live line).take size ∧
          result = line.filter (fun x => (s.fan x.1).expired || decide (x ∈ live result)))) ∧
      (result ≠ before → s.evaluate.events.Shows .dutyChange) ∧
      (∀ x ∈ result, x ∉ before → (s.evaluate.fan x.1).demand = .run sc.direction .urgent) ∧
      (∀ x ∈ before, x ∉ result → (s.evaluate.fan x.1).demand = .none)

end
end

