-- ==== Sys2Proof/Laws/State.lean ====
section
/-! SUPPORT. One lemma for each field under each update of the state, true by unfolding, so that no proof unfolds a
record update; and what an update makes of the field it changes. -/

namespace Sys2Proof.Machine

/-! ### `State.modifyFan` -/

@[simp] theorem State.modifyFan_pending (s : State) (i : Nat) (f : Fan → Fan) : (s.modifyFan i f).pending = s.pending := rfl
@[simp] theorem State.modifyFan_image (s : State) (i : Nat) (f : Fan → Fan) : (s.modifyFan i f).image = s.image := rfl
@[simp] theorem State.modifyFan_line (s : State) (i : Nat) (f : Fan → Fan) : (s.modifyFan i f).line = s.line := rfl
@[simp] theorem State.modifyFan_feeders (s : State) (i : Nat) (f : Fan → Fan) : (s.modifyFan i f).feeders = s.feeders := rfl
@[simp] theorem State.modifyFan_feederInputs (s : State) (i : Nat) (f : Fan → Fan) : (s.modifyFan i f).feederInputs = s.feederInputs := rfl
@[simp] theorem State.modifyFan_air (s : State) (i : Nat) (f : Fan → Fan) : (s.modifyFan i f).air = s.air := rfl
@[simp] theorem State.modifyFan_link (s : State) (i : Nat) (f : Fan → Fan) : (s.modifyFan i f).link = s.link := rfl
@[simp] theorem State.modifyFan_loader (s : State) (i : Nat) (f : Fan → Fan) : (s.modifyFan i f).loader = s.loader := rfl
@[simp] theorem State.modifyFan_events (s : State) (i : Nat) (f : Fan → Fan) : (s.modifyFan i f).events = s.events := rfl
@[simp] theorem State.modifyFan_freeIndex (s : State) (i : Nat) (f : Fan → Fan) : (s.modifyFan i f).freeIndex = s.freeIndex := rfl
@[simp] theorem State.modifyFan_fans (s : State) (i : Nat) (f : Fan → Fan) :
    (s.modifyFan i f).fans = s.fans.modify i f := rfl

/-! ### `State.modifyFeeder` -/

@[simp] theorem State.modifyFeeder_pending (s : State) (n : Nat) (f : Feeder → Feeder) : (s.modifyFeeder n f).pending = s.pending := rfl
@[simp] theorem State.modifyFeeder_image (s : State) (n : Nat) (f : Feeder → Feeder) : (s.modifyFeeder n f).image = s.image := rfl
@[simp] theorem State.modifyFeeder_line (s : State) (n : Nat) (f : Feeder → Feeder) : (s.modifyFeeder n f).line = s.line := rfl
@[simp] theorem State.modifyFeeder_fans (s : State) (n : Nat) (f : Feeder → Feeder) : (s.modifyFeeder n f).fans = s.fans := rfl
@[simp] theorem State.modifyFeeder_feederInputs (s : State) (n : Nat) (f : Feeder → Feeder) : (s.modifyFeeder n f).feederInputs = s.feederInputs := rfl
@[simp] theorem State.modifyFeeder_air (s : State) (n : Nat) (f : Feeder → Feeder) : (s.modifyFeeder n f).air = s.air := rfl
@[simp] theorem State.modifyFeeder_link (s : State) (n : Nat) (f : Feeder → Feeder) : (s.modifyFeeder n f).link = s.link := rfl
@[simp] theorem State.modifyFeeder_loader (s : State) (n : Nat) (f : Feeder → Feeder) : (s.modifyFeeder n f).loader = s.loader := rfl
@[simp] theorem State.modifyFeeder_events (s : State) (n : Nat) (f : Feeder → Feeder) : (s.modifyFeeder n f).events = s.events := rfl
@[simp] theorem State.modifyFeeder_freeIndex (s : State) (n : Nat) (f : Feeder → Feeder) : (s.modifyFeeder n f).freeIndex = s.freeIndex := rfl
@[simp] theorem State.modifyFeeder_feeders (s : State) (n : Nat) (f : Feeder → Feeder) :
    (s.modifyFeeder n f).feeders = s.feeders.modify n f := rfl

/-! ### `State.modifyInputs` -/

@[simp] theorem State.modifyInputs_pending (s : State) (n : Nat) (f : FeederInputs → FeederInputs) : (s.modifyInputs n f).pending = s.pending := rfl
@[simp] theorem State.modifyInputs_image (s : State) (n : Nat) (f : FeederInputs → FeederInputs) : (s.modifyInputs n f).image = s.image := rfl
@[simp] theorem State.modifyInputs_line (s : State) (n : Nat) (f : FeederInputs → FeederInputs) : (s.modifyInputs n f).line = s.line := rfl
@[simp] theorem State.modifyInputs_fans (s : State) (n : Nat) (f : FeederInputs → FeederInputs) : (s.modifyInputs n f).fans = s.fans := rfl
@[simp] theorem State.modifyInputs_feeders (s : State) (n : Nat) (f : FeederInputs → FeederInputs) : (s.modifyInputs n f).feeders = s.feeders := rfl
@[simp] theorem State.modifyInputs_air (s : State) (n : Nat) (f : FeederInputs → FeederInputs) : (s.modifyInputs n f).air = s.air := rfl
@[simp] theorem State.modifyInputs_link (s : State) (n : Nat) (f : FeederInputs → FeederInputs) : (s.modifyInputs n f).link = s.link := rfl
@[simp] theorem State.modifyInputs_loader (s : State) (n : Nat) (f : FeederInputs → FeederInputs) : (s.modifyInputs n f).loader = s.loader := rfl
@[simp] theorem State.modifyInputs_events (s : State) (n : Nat) (f : FeederInputs → FeederInputs) : (s.modifyInputs n f).events = s.events := rfl
@[simp] theorem State.modifyInputs_freeIndex (s : State) (n : Nat) (f : FeederInputs → FeederInputs) : (s.modifyInputs n f).freeIndex = s.freeIndex := rfl
@[simp] theorem State.modifyInputs_feederInputs (s : State) (n : Nat) (f : FeederInputs → FeederInputs) :
    (s.modifyInputs n f).feederInputs = s.feederInputs.modify n f := rfl

/-! ### `State.modifyScenario` -/

@[simp] theorem State.modifyScenario_pending (s : State) (f : Scenario → Scenario) : (s.modifyScenario f).pending = s.pending := rfl
@[simp] theorem State.modifyScenario_image (s : State) (f : Scenario → Scenario) : (s.modifyScenario f).image = s.image := rfl
@[simp] theorem State.modifyScenario_fans (s : State) (f : Scenario → Scenario) : (s.modifyScenario f).fans = s.fans := rfl
@[simp] theorem State.modifyScenario_feeders (s : State) (f : Scenario → Scenario) : (s.modifyScenario f).feeders = s.feeders := rfl
@[simp] theorem State.modifyScenario_feederInputs (s : State) (f : Scenario → Scenario) : (s.modifyScenario f).feederInputs = s.feederInputs := rfl
@[simp] theorem State.modifyScenario_air (s : State) (f : Scenario → Scenario) : (s.modifyScenario f).air = s.air := rfl
@[simp] theorem State.modifyScenario_link (s : State) (f : Scenario → Scenario) : (s.modifyScenario f).link = s.link := rfl
@[simp] theorem State.modifyScenario_loader (s : State) (f : Scenario → Scenario) : (s.modifyScenario f).loader = s.loader := rfl
@[simp] theorem State.modifyScenario_events (s : State) (f : Scenario → Scenario) : (s.modifyScenario f).events = s.events := rfl
@[simp] theorem State.modifyScenario_freeIndex (s : State) (f : Scenario → Scenario) : (s.modifyScenario f).freeIndex = s.freeIndex := rfl
@[simp] theorem State.modifyScenario_line (s : State) (f : Scenario → Scenario) :
    (s.modifyScenario f).line = { s.line with scenario := s.line.scenario.map f } := rfl

/-! ### `State.setDuty` -/

@[simp] theorem State.setDuty_pending (s : State) (d : List Member) : (s.setDuty d).pending = s.pending := rfl
@[simp] theorem State.setDuty_image (s : State) (d : List Member) : (s.setDuty d).image = s.image := rfl
@[simp] theorem State.setDuty_fans (s : State) (d : List Member) : (s.setDuty d).fans = s.fans := rfl
@[simp] theorem State.setDuty_feeders (s : State) (d : List Member) : (s.setDuty d).feeders = s.feeders := rfl
@[simp] theorem State.setDuty_feederInputs (s : State) (d : List Member) : (s.setDuty d).feederInputs = s.feederInputs := rfl
@[simp] theorem State.setDuty_air (s : State) (d : List Member) : (s.setDuty d).air = s.air := rfl
@[simp] theorem State.setDuty_link (s : State) (d : List Member) : (s.setDuty d).link = s.link := rfl
@[simp] theorem State.setDuty_loader (s : State) (d : List Member) : (s.setDuty d).loader = s.loader := rfl
@[simp] theorem State.setDuty_events (s : State) (d : List Member) : (s.setDuty d).events = s.events := rfl
@[simp] theorem State.setDuty_freeIndex (s : State) (d : List Member) : (s.setDuty d).freeIndex = s.freeIndex := rfl
@[simp] theorem State.setDuty_line (s : State) (d : List Member) :
    (s.setDuty d).line = { s.line with duty := d } := rfl

/-! ### `State.setMode` -/

@[simp] theorem State.setMode_pending (s : State) (m : LineMode) : (s.setMode m).pending = s.pending := rfl
@[simp] theorem State.setMode_image (s : State) (m : LineMode) : (s.setMode m).image = s.image := rfl
@[simp] theorem State.setMode_fans (s : State) (m : LineMode) : (s.setMode m).fans = s.fans := rfl
@[simp] theorem State.setMode_feeders (s : State) (m : LineMode) : (s.setMode m).feeders = s.feeders := rfl
@[simp] theorem State.setMode_feederInputs (s : State) (m : LineMode) : (s.setMode m).feederInputs = s.feederInputs := rfl
@[simp] theorem State.setMode_air (s : State) (m : LineMode) : (s.setMode m).air = s.air := rfl
@[simp] theorem State.setMode_link (s : State) (m : LineMode) : (s.setMode m).link = s.link := rfl
@[simp] theorem State.setMode_loader (s : State) (m : LineMode) : (s.setMode m).loader = s.loader := rfl
@[simp] theorem State.setMode_events (s : State) (m : LineMode) : (s.setMode m).events = s.events := rfl
@[simp] theorem State.setMode_freeIndex (s : State) (m : LineMode) : (s.setMode m).freeIndex = s.freeIndex := rfl
@[simp] theorem State.setMode_line (s : State) (m : LineMode) :
    (s.setMode m).line = { s.line with mode := m } := rfl

/-! ### `State.nextFree` -/

@[simp] theorem State.nextFree_pending (s : State) : s.nextFree.pending = s.pending := rfl
@[simp] theorem State.nextFree_image (s : State) : s.nextFree.image = s.image := rfl
@[simp] theorem State.nextFree_fans (s : State) : s.nextFree.fans = s.fans := rfl
@[simp] theorem State.nextFree_feeders (s : State) : s.nextFree.feeders = s.feeders := rfl
@[simp] theorem State.nextFree_feederInputs (s : State) : s.nextFree.feederInputs = s.feederInputs := rfl
@[simp] theorem State.nextFree_air (s : State) : s.nextFree.air = s.air := rfl
@[simp] theorem State.nextFree_link (s : State) : s.nextFree.link = s.link := rfl
@[simp] theorem State.nextFree_loader (s : State) : s.nextFree.loader = s.loader := rfl
@[simp] theorem State.nextFree_events (s : State) : s.nextFree.events = s.events := rfl
@[simp] theorem State.nextFree_line (s : State) : s.nextFree.line = s.line := rfl
@[simp] theorem State.nextFree_freeIndex (s : State) : s.nextFree.freeIndex = s.freeIndex + 1 := rfl

/-! ### `State.awaiting` and the waiting reports -/

@[simp] theorem State.awaiting_pending (s : State) (i : Nat) (w : Bool) : (s.awaiting i w).pending = s.pending := rfl
@[simp] theorem State.awaiting_image (s : State) (i : Nat) (w : Bool) : (s.awaiting i w).image = s.image := rfl
@[simp] theorem State.awaiting_fans (s : State) (i : Nat) (w : Bool) : (s.awaiting i w).fans = s.fans := rfl
@[simp] theorem State.awaiting_feeders (s : State) (i : Nat) (w : Bool) : (s.awaiting i w).feeders = s.feeders := rfl
@[simp] theorem State.awaiting_feederInputs (s : State) (i : Nat) (w : Bool) : (s.awaiting i w).feederInputs = s.feederInputs := rfl
@[simp] theorem State.awaiting_air (s : State) (i : Nat) (w : Bool) : (s.awaiting i w).air = s.air := rfl
@[simp] theorem State.awaiting_link (s : State) (i : Nat) (w : Bool) : (s.awaiting i w).link = s.link := rfl
@[simp] theorem State.awaiting_loader (s : State) (i : Nat) (w : Bool) : (s.awaiting i w).loader = s.loader := rfl
@[simp] theorem State.awaiting_events (s : State) (i : Nat) (w : Bool) : (s.awaiting i w).events = s.events := rfl
@[simp] theorem State.awaiting_freeIndex (s : State) (i : Nat) (w : Bool) : (s.awaiting i w).freeIndex = s.freeIndex := rfl
@[simp] theorem State.awaiting_reports (s : State) (i : Nat) (w : Bool) :
    (s.awaiting i w).line.reports = s.line.reports ++ if s.isMember i && w then [i] else [] := rfl
@[simp] theorem State.sendReport_false (s : State) (i : Nat) : s.sendReport i false = s.reportLoss i :=
  if_neg (by simp)
@[simp] theorem State.loseFan_false (s : State) (i : Nat) (dest : FanState) (fault : Option LastFault) :
    s.loseFan i dest fault false = s.enterHolding i dest fault := State.sendReport_false _ i
@[simp] theorem State.losePowers_nil (s : State) (w : Bool) : s.losePowers w [] = s := rfl
@[simp] theorem State.losePowers_cons (s : State) (w : Bool) (i : Nat) (is : List Nat) : s.losePowers w (i :: is) =
    (s.losePower i (!is.any (fun j => (s.fan j).state.losesPower) && w)).losePowers w is := rfl

/-! ### `State.raise` -/

@[simp] theorem State.raise_pending (s : State) (k : EventKind) : (s.raise k).pending = s.pending := rfl
@[simp] theorem State.raise_image (s : State) (k : EventKind) : (s.raise k).image = s.image := rfl
@[simp] theorem State.raise_line (s : State) (k : EventKind) : (s.raise k).line = s.line := rfl
@[simp] theorem State.raise_fans (s : State) (k : EventKind) : (s.raise k).fans = s.fans := rfl
@[simp] theorem State.raise_feeders (s : State) (k : EventKind) : (s.raise k).feeders = s.feeders := rfl
@[simp] theorem State.raise_feederInputs (s : State) (k : EventKind) : (s.raise k).feederInputs = s.feederInputs := rfl
@[simp] theorem State.raise_air (s : State) (k : EventKind) : (s.raise k).air = s.air := rfl
@[simp] theorem State.raise_link (s : State) (k : EventKind) : (s.raise k).link = s.link := rfl
@[simp] theorem State.raise_loader (s : State) (k : EventKind) : (s.raise k).loader = s.loader := rfl
@[simp] theorem State.raise_freeIndex (s : State) (k : EventKind) : (s.raise k).freeIndex = s.freeIndex := rfl
@[simp] theorem State.raise_events (s : State) (k : EventKind) :
    (s.raise k).events = s.events.raise k := rfl

/-! ### `State.refreshShortfall` -/

@[simp] theorem State.refreshShortfall_pending (s : State) : (s.refreshShortfall).pending = s.pending := rfl
@[simp] theorem State.refreshShortfall_image (s : State) : (s.refreshShortfall).image = s.image := rfl
@[simp] theorem State.refreshShortfall_line (s : State) : (s.refreshShortfall).line = s.line := rfl
@[simp] theorem State.refreshShortfall_fans (s : State) : (s.refreshShortfall).fans = s.fans := rfl
@[simp] theorem State.refreshShortfall_feeders (s : State) : (s.refreshShortfall).feeders = s.feeders := rfl
@[simp] theorem State.refreshShortfall_feederInputs (s : State) : (s.refreshShortfall).feederInputs = s.feederInputs := rfl
@[simp] theorem State.refreshShortfall_air (s : State) : (s.refreshShortfall).air = s.air := rfl
@[simp] theorem State.refreshShortfall_link (s : State) : (s.refreshShortfall).link = s.link := rfl
@[simp] theorem State.refreshShortfall_loader (s : State) : (s.refreshShortfall).loader = s.loader := rfl
@[simp] theorem State.refreshShortfall_freeIndex (s : State) : (s.refreshShortfall).freeIndex = s.freeIndex := rfl

/-! ### `State.refreshFeedbackLost` -/

@[simp] theorem State.refreshFeedbackLost_pending (s : State) : (s.refreshFeedbackLost).pending = s.pending := rfl
@[simp] theorem State.refreshFeedbackLost_image (s : State) : (s.refreshFeedbackLost).image = s.image := rfl
@[simp] theorem State.refreshFeedbackLost_line (s : State) : (s.refreshFeedbackLost).line = s.line := rfl
@[simp] theorem State.refreshFeedbackLost_fans (s : State) : (s.refreshFeedbackLost).fans = s.fans := rfl
@[simp] theorem State.refreshFeedbackLost_feeders (s : State) : (s.refreshFeedbackLost).feeders = s.feeders := rfl
@[simp] theorem State.refreshFeedbackLost_feederInputs (s : State) : (s.refreshFeedbackLost).feederInputs = s.feederInputs := rfl
@[simp] theorem State.refreshFeedbackLost_air (s : State) : (s.refreshFeedbackLost).air = s.air := rfl
@[simp] theorem State.refreshFeedbackLost_link (s : State) : (s.refreshFeedbackLost).link = s.link := rfl
@[simp] theorem State.refreshFeedbackLost_loader (s : State) : (s.refreshFeedbackLost).loader = s.loader := rfl
@[simp] theorem State.refreshFeedbackLost_freeIndex (s : State) : (s.refreshFeedbackLost).freeIndex = s.freeIndex := rfl

/-! ### `State.refreshFeederLevels` -/

@[simp] theorem State.refreshFeederLevels_pending (s : State) : (s.refreshFeederLevels).pending = s.pending := rfl
@[simp] theorem State.refreshFeederLevels_image (s : State) : (s.refreshFeederLevels).image = s.image := rfl
@[simp] theorem State.refreshFeederLevels_line (s : State) : (s.refreshFeederLevels).line = s.line := rfl
@[simp] theorem State.refreshFeederLevels_fans (s : State) : (s.refreshFeederLevels).fans = s.fans := rfl
@[simp] theorem State.refreshFeederLevels_feeders (s : State) : (s.refreshFeederLevels).feeders = s.feeders := rfl
@[simp] theorem State.refreshFeederLevels_feederInputs (s : State) : (s.refreshFeederLevels).feederInputs = s.feederInputs := rfl
@[simp] theorem State.refreshFeederLevels_air (s : State) : (s.refreshFeederLevels).air = s.air := rfl
@[simp] theorem State.refreshFeederLevels_link (s : State) : (s.refreshFeederLevels).link = s.link := rfl
@[simp] theorem State.refreshFeederLevels_loader (s : State) : (s.refreshFeederLevels).loader = s.loader := rfl
@[simp] theorem State.refreshFeederLevels_freeIndex (s : State) : (s.refreshFeederLevels).freeIndex = s.freeIndex := rfl

/-! ### `State.refreshAirflowFault` -/

@[simp] theorem State.refreshAirflowFault_pending (s : State) : (s.refreshAirflowFault).pending = s.pending := rfl
@[simp] theorem State.refreshAirflowFault_image (s : State) : (s.refreshAirflowFault).image = s.image := rfl
@[simp] theorem State.refreshAirflowFault_line (s : State) : (s.refreshAirflowFault).line = s.line := rfl
@[simp] theorem State.refreshAirflowFault_fans (s : State) : (s.refreshAirflowFault).fans = s.fans := rfl
@[simp] theorem State.refreshAirflowFault_feeders (s : State) : (s.refreshAirflowFault).feeders = s.feeders := rfl
@[simp] theorem State.refreshAirflowFault_feederInputs (s : State) : (s.refreshAirflowFault).feederInputs = s.feederInputs := rfl
@[simp] theorem State.refreshAirflowFault_air (s : State) : (s.refreshAirflowFault).air = s.air := rfl
@[simp] theorem State.refreshAirflowFault_link (s : State) : (s.refreshAirflowFault).link = s.link := rfl
@[simp] theorem State.refreshAirflowFault_loader (s : State) : (s.refreshAirflowFault).loader = s.loader := rfl
@[simp] theorem State.refreshAirflowFault_freeIndex (s : State) : (s.refreshAirflowFault).freeIndex = s.freeIndex := rfl

/-! ### `State.settle` -/

@[simp] theorem State.settle_pending (s : State) : (s.settle).pending = s.pending := rfl
@[simp] theorem State.settle_image (s : State) : (s.settle).image = s.image := rfl
@[simp] theorem State.settle_line (s : State) : (s.settle).line = s.line := rfl
@[simp] theorem State.settle_fans (s : State) : (s.settle).fans = s.fans := rfl
@[simp] theorem State.settle_feeders (s : State) : (s.settle).feeders = s.feeders := rfl
@[simp] theorem State.settle_feederInputs (s : State) : (s.settle).feederInputs = s.feederInputs := rfl
@[simp] theorem State.settle_air (s : State) : (s.settle).air = s.air := rfl
@[simp] theorem State.settle_loader (s : State) : (s.settle).loader = s.loader := rfl
@[simp] theorem State.settle_freeIndex (s : State) : (s.settle).freeIndex = s.freeIndex := rfl

/-! ### `State.publishVm` -/

@[simp] theorem State.publishVm_pending (s : State) : (s.publishVm).pending = s.pending := rfl
@[simp] theorem State.publishVm_image (s : State) : (s.publishVm).image = s.image := rfl
@[simp] theorem State.publishVm_line (s : State) : (s.publishVm).line = s.line := rfl
@[simp] theorem State.publishVm_fans (s : State) : (s.publishVm).fans = s.fans := rfl
@[simp] theorem State.publishVm_feeders (s : State) : (s.publishVm).feeders = s.feeders := rfl
@[simp] theorem State.publishVm_feederInputs (s : State) : (s.publishVm).feederInputs = s.feederInputs := rfl
@[simp] theorem State.publishVm_link (s : State) : (s.publishVm).link = s.link := rfl
@[simp] theorem State.publishVm_loader (s : State) : (s.publishVm).loader = s.loader := rfl
@[simp] theorem State.publishVm_freeIndex (s : State) : (s.publishVm).freeIndex = s.freeIndex := rfl

/-! ### `State.takeSnapshot` -/

@[simp] theorem State.takeSnapshot_pending (s : State) : (s.takeSnapshot).pending = s.pending := rfl
@[simp] theorem State.takeSnapshot_image (s : State) : (s.takeSnapshot).image = s.image := rfl
@[simp] theorem State.takeSnapshot_line (s : State) : (s.takeSnapshot).line = s.line := rfl
@[simp] theorem State.takeSnapshot_fans (s : State) : (s.takeSnapshot).fans = s.fans := rfl
@[simp] theorem State.takeSnapshot_feeders (s : State) : (s.takeSnapshot).feeders = s.feeders := rfl
@[simp] theorem State.takeSnapshot_feederInputs (s : State) : (s.takeSnapshot).feederInputs = s.feederInputs := rfl
@[simp] theorem State.takeSnapshot_link (s : State) : (s.takeSnapshot).link = s.link := rfl
@[simp] theorem State.takeSnapshot_loader (s : State) : (s.takeSnapshot).loader = s.loader := rfl
@[simp] theorem State.takeSnapshot_events (s : State) : (s.takeSnapshot).events = s.events := rfl
@[simp] theorem State.takeSnapshot_freeIndex (s : State) : (s.takeSnapshot).freeIndex = s.freeIndex := rfl

/-! ### `State.beginWindows` -/

@[simp] theorem State.beginWindows_pending (s : State) (h : BitVec 16) : (s.beginWindows h).pending = s.pending := rfl
@[simp] theorem State.beginWindows_image (s : State) (h : BitVec 16) : (s.beginWindows h).image = s.image := rfl
@[simp] theorem State.beginWindows_line (s : State) (h : BitVec 16) : (s.beginWindows h).line = s.line := rfl
@[simp] theorem State.beginWindows_fans (s : State) (h : BitVec 16) : (s.beginWindows h).fans = s.fans := rfl
@[simp] theorem State.beginWindows_feeders (s : State) (h : BitVec 16) : (s.beginWindows h).feeders = s.feeders := rfl
@[simp] theorem State.beginWindows_feederInputs (s : State) (h : BitVec 16) : (s.beginWindows h).feederInputs = s.feederInputs := rfl
@[simp] theorem State.beginWindows_link (s : State) (h : BitVec 16) : (s.beginWindows h).link = s.link := rfl
@[simp] theorem State.beginWindows_loader (s : State) (h : BitVec 16) : (s.beginWindows h).loader = s.loader := rfl
@[simp] theorem State.beginWindows_events (s : State) (h : BitVec 16) : (s.beginWindows h).events = s.events := rfl
@[simp] theorem State.beginWindows_freeIndex (s : State) (h : BitVec 16) : (s.beginWindows h).freeIndex = s.freeIndex := rfl

/-! ### Figures that read only some fields -/

@[simp] theorem State.modifyFan_fanCount (s : State) (i : Nat) (f : Fan → Fan) :
    (s.modifyFan i f).fanCount = s.fanCount := by
  simp [State.fanCount]

@[simp] theorem State.modifyFeeder_feederCount (s : State) (n : Nat) (f : Feeder → Feeder) :
    (s.modifyFeeder n f).feederCount = s.feederCount := by
  simp [State.feederCount]

/-- The static figures of the fans and feeders depend on the image alone. -/
theorem State.statics_congr {s t : State} (h : t.image = s.image) :
    t.fanStatic? = s.fanStatic? ∧ t.coastTime = s.coastTime ∧ t.startTime = s.startTime
      ∧ t.feedbackAllowance = s.feedbackAllowance ∧ t.feederOf = s.feederOf ∧ t.slots = s.slots
      ∧ t.settleTime = s.settleTime ∧ t.tunnel? = s.tunnel? ∧ t.fireClass? = s.fireClass?
      ∧ t.fanChainage = s.fanChainage ∧ t.redundancy = s.redundancy := by
  have hf : t.fanStatic? = s.fanStatic? := by funext i; simp [State.fanStatic?, h]
  have ht : t.tunnel? = s.tunnel? := by simp [State.tunnel?, h]
  refine ⟨hf, ?_, ?_, ?_, ?_, ?_, ?_, ht, ?_, ?_, ?_⟩
  · funext i; simp [State.coastTime, hf]
  · funext i; simp [State.startTime, hf]
  · simp [State.feedbackAllowance, h]
  · funext i; simp [State.feederOf, hf]
  · funext i; simp [State.slots, h]
  · funext i; simp [State.settleTime, h]
  · funext i; simp [State.fireClass?, h]
  · funext i; simp [State.fanChainage, hf]
  · simp [State.redundancy, ht]

/-- A fan's live record depends on the list of live records alone. -/
theorem State.fan_congr {s t : State} (h : t.fans = s.fans) (i : Nat) : t.fan i = s.fan i := by
  simp [State.fan, h]

/-- The record just changed, where there is one. -/
theorem State.fan_modifyFan_self (s : State) (i : Nat) (f : Fan → Fan) (h : i < s.fanCount) :
    (s.modifyFan i f).fan i = f (s.fan i) := by
  unfold State.fanCount at h
  simp [State.fan, State.modifyFan, List.getD_eq_getElem?_getD, h]

/-- Every other record stays. -/
@[simp] theorem State.fan_modifyFan_ne (s : State) (i j : Nat) (f : Fan → Fan) (h : j ≠ i) :
    (s.modifyFan i f).fan j = s.fan j := by
  simp [State.fan, State.modifyFan, List.getD_eq_getElem?_getD, Ne.symm h]

/-- A fan without a record is not changed. -/
theorem State.modifyFan_none (s : State) (i : Nat) (f : Fan → Fan) (h : s.fanCount ≤ i) : s.modifyFan i f = s := by
  unfold State.fanCount at h
  simp [State.modifyFan, List.modify_eq_self h]

/-- A fan without a record reads as after a full reset. -/
theorem State.fan_none (s : State) (i : Nat) (h : s.fanCount ≤ i) : s.fan i = Fan.afterReset := by
  unfold State.fanCount at h
  simp [State.fan, List.getD_eq_getElem?_getD, List.getElem?_eq_none h]

/-- A property that every change of a record keeps is kept by the change of one. -/
theorem State.fan_modifyFan_prop {P : Fan → Fan → Prop} (s : State) (i : Nat) (f : Fan → Fan)
    (hr : ∀ g, P g g) (hf : ∀ g, P g (f g)) (j : Nat) : P (s.fan j) ((s.modifyFan i f).fan j) := by
  by_cases hj : j = i
  · subst hj
    rcases Nat.lt_or_ge j s.fanCount with h | h
    · rw [State.fan_modifyFan_self s j f h]; exact hf _
    · rw [State.modifyFan_none s j f h]; exact hr _
  · rw [State.fan_modifyFan_ne s i j f hj]; exact hr _

/-- A record just changed in a feeder list. -/
theorem State.feeder_modifyFeeder (s : State) (n m : Nat) (f : Feeder → Feeder) :
    (s.modifyFeeder n f).feeders[m]? = if n = m then (s.feeders[m]?).map f else s.feeders[m]? := by
  by_cases h : n = m <;> simp [h]

/-- Every fan record is one of the list, and every record of the list is some fan's. -/
theorem State.forall_fans_iff (s : State) (P : Fan → Prop) :
    (∀ f ∈ s.fans, P f) ↔ ∀ i, i < s.fanCount → P (s.fan i) := by
  constructor
  · intro h i hi
    have hi' : i < s.fans.length := hi
    have : s.fan i = s.fans[i] := by simp [State.fan, List.getD_eq_getElem?_getD, hi']
    rw [this]; exact h _ (List.getElem_mem hi)
  · intro h f hf
    obtain ⟨i, hi, rfl⟩ := List.getElem_of_mem hf
    have := h i hi
    simpa [State.fan, List.getD_eq_getElem?_getD, hi] using this

end Sys2Proof.Machine
end

