-- ==== Sys2Proof/Laws/Frames.lean ====
section
/-! SUPPORT. The frame `State.FieldWork` holds of every operation by which demands are written, starts granted and the
duty set sized: one lemma for each shared operation, up to the evaluation and the report of a lost fan. -/

namespace Sys2Proof.Machine

/-! ### Histories -/

theorem Fan.SameHistory.refl (f : Fan) : f.SameHistory f := ⟨rfl, rfl, rfl, rfl, rfl, rfl, rfl, rfl⟩

theorem Fan.SameHistory.trans {f g h : Fan} (a : f.SameHistory g) (b : g.SameHistory h) : f.SameHistory h := by
  obtain ⟨a1, a2, a3, a4, a5, a6, a7, a8⟩ := a
  obtain ⟨b1, b2, b3, b4, b5, b6, b7, b8⟩ := b
  exact ⟨b1.trans a1, b2.trans a2, b3.trans a3, b4.trans a4, b5.trans a5, b6.trans a6, b7.trans a7, b8.trans a8⟩

/-! ### The frame is reflexive and transitive -/

theorem State.FieldWork.refl (s : State) : State.FieldWork s s :=
  ⟨rfl, rfl, rfl, rfl, rfl, rfl, rfl, rfl, rfl, rfl, rfl, rfl, rfl, rfl, rfl, rfl, fun _ h => h, rfl,
    fun _ => Fan.SameHistory.refl _, rfl⟩

theorem State.FieldWork.trans {s t u : State} (a : State.FieldWork s t) (b : State.FieldWork t u) :
    State.FieldWork s u where
  pending := b.pending.trans a.pending
  image := b.image.trans a.image
  inputs := b.inputs.trans a.inputs
  air := b.air.trans a.air
  loader := b.loader.trans a.loader
  free := b.free.trans a.free
  mode := b.mode.trans a.mode
  counting := b.counting.trans a.counting
  windowCount := b.windowCount.trans a.windowCount
  boundaryDue := b.boundaryDue.trans a.boundaryDue
  overtaken := b.overtaken.trans a.overtaken
  reports := b.reports.trans a.reports
  scenario := b.scenario.trans a.scenario
  link := b.link.trans a.link
  mask := b.mask.trans a.mask
  levels := b.levels.trans a.levels
  grows := fun n h => b.grows n (a.grows n h)
  fanCount := b.fanCount.trans a.fanCount
  history := fun i => (a.history i).trans (b.history i)
  feeders := b.feeders.trans a.feeders

/-- Transitivity, the later part first. -/
theorem State.FieldWork.after {s t u : State} (b : State.FieldWork t u) (a : State.FieldWork s t) :
    State.FieldWork s u := a.trans b

/-- A property of both branches is one of the choice. -/
theorem ite_keeps {α : Type} {P : α → Prop} {c : Prop} [Decidable c] {a b : α} (ha : P a) (hb : P b) :
    P (if c then a else b) := by split <;> assumption

/-- An operation applied along a list keeps every frame that is reflexive and transitive. -/
theorem forEach_rel {R : State → State → Prop} (hr : ∀ s, R s s) (ht : ∀ s t u, R s t → R t u → R s u)
    {op : State → Nat → State} (h : ∀ s i, R s (op s i)) (s : State) (l : List Nat) : R s (forEach op s l) := by
  induction l generalizing s with
  | nil => exact hr s
  | cons i is ih => exact ht _ _ _ (h s i) (ih (op s i))

/-- An operation applied along a list keeps every property that each application keeps. -/
theorem forEach_inv {P : State → Prop} {op : State → Nat → State} (h : ∀ s i, P s → P (op s i)) (s : State)
    (l : List Nat) (hs : P s) : P (forEach op s l) := by
  induction l generalizing s with
  | nil => exact hs
  | cons i is ih => exact ih (op s i) (h s i hs)

theorem State.FieldWork.forEach {op : State → Nat → State} (h : ∀ s i, State.FieldWork s (op s i)) (s : State)
    (l : List Nat) : State.FieldWork s (forEach op s l) :=
  forEach_rel State.FieldWork.refl (fun _ _ _ => State.FieldWork.trans) h s l

/-! ### The event latch -/

/-- A kind stands in the set after a latching when it stood there before or is latched unmasked. -/
@[simp] theorem EventLatch.latch_set (e : EventLatch) (kinds : BitVec 12) :
    (e.latch kinds).set = e.set ||| (kinds &&& e.mask) := rfl

@[simp] theorem EventLatch.latch_mask (e : EventLatch) (kinds : BitVec 12) : (e.latch kinds).mask = e.mask := rfl

@[simp] theorem EventLatch.latch_levels (e : EventLatch) (kinds : BitVec 12) : (e.latch kinds).levels = e.levels := rfl

@[simp] theorem EventLatch.raise_mask (e : EventLatch) (k : EventKind) : (e.raise k).mask = e.mask := rfl

@[simp] theorem EventLatch.raise_levels (e : EventLatch) (k : EventKind) : (e.raise k).levels = e.levels := rfl

/-- A kind's flag is its own bit and no other kind's. -/
theorem EventKind.flag_getLsbD (k k' : EventKind) : k.flag.getLsbD k'.bit = decide (k' = k) := by
  cases k <;> cases k' <;> decide

/-- A kind raised stands in the set unless it is masked (R174). -/
theorem EventLatch.raise_shows (e : EventLatch) (k : EventKind) : (e.raise k).Shows k := by
  intro h
  simp only [EventLatch.raise, EventLatch.latch_set, EventLatch.latch_mask, BitVec.getLsbD_or, BitVec.getLsbD_and,
    EventKind.flag_getLsbD, decide_true, Bool.true_and] at h ⊢
  simp [h]

/-- Raising a kind leaves every other kind as it stands. -/
theorem EventLatch.raise_other (e : EventLatch) (k k' : EventKind) (h : k' ≠ k) :
    (e.raise k).set.getLsbD k'.bit = e.set.getLsbD k'.bit := by
  simp [EventLatch.raise, EventKind.flag_getLsbD, h]

/-- A latching never takes a kind out of the set. -/
theorem EventLatch.latch_grows (e : EventLatch) (kinds : BitVec 12) (n : Nat) (h : e.set.getLsbD n = true) :
    (e.latch kinds).set.getLsbD n = true := by simp [h]

theorem EventLatch.reportShortfall_frame (e : EventLatch) (b : Bool) :
    (e.reportShortfall b).mask = e.mask ∧ (e.reportShortfall b).levels = { e.levels with shortfall := b }
      ∧ ∀ n, e.set.getLsbD n = true → (e.reportShortfall b).set.getLsbD n = true := by
  unfold EventLatch.reportShortfall
  split <;> simp +contextual

/-! ### The single updates -/

theorem State.FieldWork.modifyFan (s : State) (i : Nat) (f : Fan → Fan) (h : ∀ g : Fan, g.SameHistory (f g)) :
    State.FieldWork s (s.modifyFan i f) :=
  { State.FieldWork.refl s with
    fanCount := by simp
    history := fun j => State.fan_modifyFan_prop s i f Fan.SameHistory.refl h j }

theorem State.FieldWork.modifyFeeder (s : State) (n : Nat) (f : Feeder → Feeder)
    (h : ∀ g : Feeder, (f g).state = g.state ∧ (f g).settleTimer = g.settleTimer) :
    State.FieldWork s (s.modifyFeeder n f) :=
  { State.FieldWork.refl s with
    feeders := by
      have : (fun g : Feeder => (g.state, g.settleTimer)) ∘ f = fun g => (g.state, g.settleTimer) := by
        funext g; simp [(h g).1, (h g).2]
      apply List.ext_getElem?
      intro m
      simp only [State.modifyFeeder_feeders, List.getElem?_map, List.getElem?_modify]
      rcases hm : s.feeders[m]? with _ | g
      · simp
      · by_cases hn : n = m <;> simp [hn, (h g).1, (h g).2] }

theorem State.FieldWork.setDuty (s : State) (d : List Member) : State.FieldWork s (s.setDuty d) :=
  { State.FieldWork.refl s with }

theorem State.FieldWork.modifyScenario (s : State) (f : Scenario → Scenario) (h : ∀ sc : Scenario, (f sc).core = sc.core) :
    State.FieldWork s (s.modifyScenario f) :=
  { State.FieldWork.refl s with
    scenario := by cases hs : s.line.scenario <;> simp [hs, h] }

theorem State.FieldWork.raise (s : State) (k : EventKind) : State.FieldWork s (s.raise k) :=
  { State.FieldWork.refl s with
    grows := fun n h => EventLatch.latch_grows _ _ n h }

theorem State.FieldWork.refreshShortfall (s : State) : State.FieldWork s s.refreshShortfall := by
  have h := EventLatch.reportShortfall_frame s.events
  exact { State.FieldWork.refl s with
    mask := (h _).1
    levels := by simp only [State.refreshShortfall, (h _).2.1]
    grows := fun n hn => (h _).2.2 n hn }

/-! ### Grants -/

theorem Fan.start_sameHistory (f : Fan) (d : Direction) (n : Nat) : f.SameHistory (f.start d n) :=
  ⟨rfl, rfl, rfl, rfl, rfl, rfl, rfl, rfl⟩

@[simp] theorem Feeder.takeHead_state (f : Feeder) : f.takeHead.state = f.state := by
  unfold Feeder.takeHead; split <;> rfl

@[simp] theorem Feeder.takeHead_settleTimer (f : Feeder) : f.takeHead.settleTimer = f.settleTimer := by
  unfold Feeder.takeHead; split <;> rfl

theorem State.FieldWork.grantHead (s : State) (n : Nat) : State.FieldWork s (s.grantHead n) := by
  unfold State.grantHead
  split
  · exact State.FieldWork.refl s
  · split
    · exact State.FieldWork.refl s
    · refine (State.FieldWork.modifyFeeder s n _ fun g => ⟨by simp, by simp⟩).trans (State.FieldWork.modifyFan _ _ _ ?_)
      intro g
      split
      · exact Fan.start_sameHistory _ _ _
      · exact Fan.SameHistory.refl _

theorem State.FieldWork.grantLoop (k : Nat) (s : State) (n : Nat) : State.FieldWork s (grantLoop k s n) := by
  induction k generalizing s with
  | zero => exact State.FieldWork.refl s
  | succ k ih =>
    unfold Machine.grantLoop
    split
    · exact (State.FieldWork.grantHead s n).trans (ih _)
    · exact State.FieldWork.refl s

theorem State.FieldWork.considerGrant (s : State) (n : Nat) : State.FieldWork s (s.considerGrant n) :=
  State.FieldWork.grantLoop _ s n

theorem State.FieldWork.onFeederOf (s : State) (i : Nat) (f : Feeder → Feeder)
    (h : ∀ g : Feeder, (f g).state = g.state ∧ (f g).settleTimer = g.settleTimer) :
    State.FieldWork s (s.onFeederOf i f) := by
  unfold State.onFeederOf
  split
  · exact State.FieldWork.modifyFeeder s _ f h
  · exact State.FieldWork.refl s

theorem State.FieldWork.considerGrantFor (s : State) (i : Nat) : State.FieldWork s (s.considerGrantFor i) := by
  unfold State.considerGrantFor
  split
  · exact State.FieldWork.considerGrant s _
  · exact State.FieldWork.refl s

theorem Feeder.join_same (f : Feeder) (e : QueueEntry) (c : DemandClass) :
    (f.join e c).state = f.state ∧ (f.join e c).settleTimer = f.settleTimer
      ∧ (f.join e c).startingCount = f.startingCount := by cases c <;> exact ⟨rfl, rfl, rfl⟩

theorem Feeder.retarget_same (f : Feeder) (i : Nat) (d : Direction) (c : DemandClass) :
    (f.retarget i d c).state = f.state ∧ (f.retarget i d c).settleTimer = f.settleTimer
      ∧ (f.retarget i d c).startingCount = f.startingCount := by
  unfold Feeder.retarget
  split
  · exact ⟨rfl, rfl, rfl⟩
  · exact Feeder.join_same _ _ _

theorem State.FieldWork.requestStart (s : State) (i : Nat) (d : Direction) (c : DemandClass) :
    State.FieldWork s (s.requestStart i d c) :=
  (State.FieldWork.onFeederOf s i _ fun g => ⟨(Feeder.join_same g _ c).1, (Feeder.join_same g _ c).2.1⟩).trans
    (State.FieldWork.considerGrantFor _ i)

theorem State.FieldWork.freeSlot (s : State) (i : Nat) : State.FieldWork s (s.freeSlot i) :=
  (State.FieldWork.considerGrantFor _ i).after (State.FieldWork.onFeederOf s i _ fun _ => ⟨rfl, rfl⟩)

/-! ### Demands -/

theorem State.FieldWork.enterQueued (s : State) (i : Nat) (d : Direction) (c : DemandClass) :
    State.FieldWork s (s.enterQueued i d c) :=
  (State.FieldWork.requestStart _ i d c).after
    (State.FieldWork.modifyFan s i _ fun _ => ⟨rfl, rfl, rfl, rfl, rfl, rfl, rfl, rfl⟩)

theorem State.FieldWork.toCoasting (s : State) (i : Nat) : State.FieldWork s (s.toCoasting i) :=
  State.FieldWork.modifyFan s i _ fun _ => ⟨rfl, rfl, rfl, rfl, rfl, rfl, rfl, rfl⟩

theorem State.FieldWork.abandonStart (s : State) (i : Nat) : State.FieldWork s (s.abandonStart i) :=
  (State.FieldWork.toCoasting s i).trans (State.FieldWork.freeSlot _ i)

theorem State.FieldWork.leaveQueue (s : State) (i : Nat) : State.FieldWork s (s.leaveQueue i) :=
  (State.FieldWork.onFeederOf s i (fun f => f.remove i) fun _ => ⟨rfl, rfl⟩).trans
    (State.FieldWork.modifyFan _ i (fun f => { f with state := .idle })
      fun _ => ⟨rfl, rfl, rfl, rfl, rfl, rfl, rfl, rfl⟩)

theorem State.FieldWork.actOnDemand (s : State) (i : Nat) (d : Demand) : State.FieldWork s (s.actOnDemand i d) := by
  unfold State.actOnDemand
  split
  · exact State.FieldWork.enterQueued ..
  · exact State.FieldWork.leaveQueue ..
  · exact State.FieldWork.onFeederOf _ _ _ fun g => ⟨(Feeder.retarget_same g _ _ _).1, (Feeder.retarget_same g _ _ _).2.1⟩
  · exact State.FieldWork.abandonStart ..
  · split
    · exact State.FieldWork.refl s
    · exact State.FieldWork.abandonStart ..
  · exact State.FieldWork.toCoasting ..
  · split
    · exact State.FieldWork.refl s
    · exact State.FieldWork.toCoasting ..
  · exact State.FieldWork.refl s

theorem State.FieldWork.writeDemand (s : State) (i : Nat) (d : Demand) : State.FieldWork s (s.writeDemand i d) := by
  unfold State.writeDemand
  split
  · exact State.FieldWork.refl s
  · exact (State.FieldWork.actOnDemand _ i d).after
      (State.FieldWork.modifyFan s i _ fun _ => ⟨rfl, rfl, rfl, rfl, rfl, rfl, rfl, rfl⟩)

theorem State.FieldWork.stopQueued (s : State) (i : Nat) : State.FieldWork s (s.stopQueued i) :=
  ite_keeps (State.FieldWork.writeDemand s i _) (State.FieldWork.refl s)

/-- Stopping every fan is field work (R19). -/
theorem State.FieldWork.stopEveryFan (s : State) : State.FieldWork s s.stopEveryFan :=
  (State.FieldWork.forEach State.FieldWork.stopQueued s _).trans
    (State.FieldWork.forEach (fun _ _ => State.FieldWork.writeDemand ..) _ _)

/-! ### The duty set -/

theorem State.FieldWork.joinMember (s : State) (d : Direction) (i : Nat) (r : JoinReason) (n : Nat) :
    State.FieldWork s (s.joinMember d i r n) := by
  refine State.FieldWork.trans ?_ (State.FieldWork.writeDemand _ i _)
  refine State.FieldWork.trans ?_ (State.FieldWork.raise _ _)
  exact (State.FieldWork.setDuty s _).trans (State.FieldWork.modifyScenario _ _ fun _ => rfl)

theorem State.FieldWork.removeMember (s : State) (i : Nat) : State.FieldWork s (s.removeMember i) := by
  refine State.FieldWork.trans ?_ (State.FieldWork.writeDemand _ i _)
  refine State.FieldWork.trans ?_ (State.FieldWork.raise _ _)
  exact (State.FieldWork.setDuty s _).trans (State.FieldWork.modifyScenario _ _ fun _ => rfl)

theorem State.FieldWork.sweep (s : State) : State.FieldWork s s.sweep :=
  State.FieldWork.forEach State.FieldWork.removeMember s _

theorem State.FieldWork.recompute (s : State) (sc : Scenario) : State.FieldWork s (s.recompute sc) :=
  State.FieldWork.setDuty s _

theorem State.FieldWork.recordShortfall (s : State) (b : Bool) : State.FieldWork s (s.recordShortfall b) :=
  (State.FieldWork.refreshShortfall _).after (State.FieldWork.modifyScenario s _ fun _ => rfl)

theorem State.FieldWork.joinAll (sc : Scenario) (s : State) (l : List Nat) : State.FieldWork s (joinAll sc s l) :=
  State.FieldWork.forEach (fun _ _ => State.FieldWork.joinMember ..) s l

theorem State.FieldWork.joinNeeded (sc : Scenario) (n : Nat) (s : State) (k : Nat) (l : List Nat) :
    State.FieldWork s (joinNeeded sc n s k l).1 := by
  induction l generalizing s k with
  | nil => exact State.FieldWork.refl s
  | cons i is ih =>
    unfold Machine.joinNeeded
    split
    · exact State.FieldWork.refl s
    · exact (State.FieldWork.joinMember ..).trans (ih _ _)

theorem State.FieldWork.joinToSize (sc : Scenario) (n k r : Nat) (s : State) (l : List Nat) :
    State.FieldWork s (joinToSize sc n k r s l) := by
  induction l generalizing s with
  | nil => exact State.FieldWork.refl s
  | cons i is ih =>
    unfold Machine.joinToSize
    simp only
    split
    · exact (State.FieldWork.joinMember ..).trans (ih _)
    · exact State.FieldWork.refl s

theorem State.FieldWork.releaseLast (s : State) : State.FieldWork s s.releaseLast := by
  unfold State.releaseLast
  split
  · exact State.FieldWork.removeMember s _
  · exact State.FieldWork.refl s

theorem State.FieldWork.releaseMany (n : Nat) (s : State) : State.FieldWork s (releaseMany n s) := by
  induction n generalizing s with
  | zero => exact State.FieldWork.refl s
  | succ n ih => exact (State.FieldWork.releaseLast s).trans (ih _)

theorem State.FieldWork.evaluateFull (s : State) (sc : Scenario) (n : Nat) : State.FieldWork s (s.evaluateFull sc n) :=
  (State.FieldWork.joinAll sc s _).trans (State.FieldWork.recordShortfall _ _)

theorem State.FieldWork.evaluateSize (s : State) (sc : Scenario) (n r : Nat) :
    State.FieldWork s (s.evaluateSize sc n r) := by
  unfold State.evaluateSize
  simp only
  refine State.FieldWork.trans ?_ (State.FieldWork.recordShortfall _ _)
  exact ite_keeps (P := State.FieldWork s) ((State.FieldWork.joinToSize ..).after (State.FieldWork.joinNeeded ..))
    ((State.FieldWork.releaseMany ..).after (State.FieldWork.joinNeeded ..))

/-- The evaluation (R56) is work of the frame. -/
theorem State.FieldWork.evaluate (s : State) : State.FieldWork s s.evaluate := by
  unfold State.evaluate
  split
  · exact State.FieldWork.refl s
  · rename_i sc _
    simp only
    have h := (((State.FieldWork.modifyScenario s (fun x => { x with required := s.requiredFor sc }) fun _ => rfl).trans
      (State.FieldWork.sweep _)).trans (State.FieldWork.recompute _ sc))
    split
    · exact h.trans (State.FieldWork.evaluateFull _ _ _)
    · exact h.trans (State.FieldWork.evaluateSize _ _ _ _)

theorem State.FieldWork.reportLoss (s : State) (i : Nat) : State.FieldWork s (s.reportLoss i) := by
  unfold State.reportLoss
  split
  · exact (State.FieldWork.removeMember s i).trans (State.FieldWork.evaluate _)
  · exact State.FieldWork.refl s

/-! ### Holding states -/

/-- Changing only the last fault of a fan to a value it already takes elsewhere: the frame an entry to a holding state
keeps, with the last fault it leaves (R105, R113). -/
theorem State.FieldWork.holdFan (s : State) (i : Nat) (dest : FanState) (fault : Option LastFault) :
    State.FieldWork (s.modifyFan i (fun f => { f with lastFault := fault.getD f.lastFault })) (s.holdFan i dest fault) := by
  unfold State.holdFan
  simp only
  set a := s.modifyFan i (fun f => { f with lastFault := fault.getD f.lastFault })
  set b := s.modifyFan i (fun f =>
    { f.stopRun s.feedbackAllowance with
      state := dest
      lastFault := fault.getD (f.stopRun s.feedbackAllowance).lastFault
      stuckTimer := if dest = .failed then none else (f.stopRun s.feedbackAllowance).stuckTimer })
  have hab : State.FieldWork a b :=
    { State.FieldWork.refl a with
      fanCount := by simp [a, b]
      history := by
        intro j
        by_cases hj : j = i
        · subst hj
          rcases Nat.lt_or_ge j s.fanCount with h | h
          · rw [State.fan_modifyFan_self s j _ h, State.fan_modifyFan_self s j _ h]
            unfold Fan.stopRun
            split <;> exact ⟨rfl, rfl, rfl, rfl, rfl, rfl, rfl, rfl⟩
          · simp only [a, b, State.modifyFan_none s j _ h]
            exact Fan.SameHistory.refl _
        · rw [State.fan_modifyFan_ne s i j _ hj, State.fan_modifyFan_ne s i j _ hj]
          exact Fan.SameHistory.refl _ }
  have hq : ∀ c : State, State.FieldWork b c →
      State.FieldWork a (if dest = .tripped ∨ dest = .failed then c.raise .fanFault else c) := by
    intro c hc
    split
    · exact (hab.trans hc).trans (State.FieldWork.raise _ _)
    · exact hab.trans hc
  apply hq
  split
  · exact State.FieldWork.onFeederOf _ _ _ fun _ => ⟨rfl, rfl⟩
  · split
    · exact State.FieldWork.freeSlot _ _
    · exact State.FieldWork.refl _

theorem State.FieldWork.enterHolding (s : State) (i : Nat) (dest : FanState) (fault : Option LastFault) :
    State.FieldWork (s.modifyFan i (fun f => { f with lastFault := fault.getD f.lastFault }))
      (s.enterHolding i dest fault) :=
  (State.FieldWork.holdFan s i dest fault).trans (State.FieldWork.reportLoss _ i)

/-- An entry to a holding state that leaves no last fault is work of the frame. -/
theorem State.FieldWork.enterHolding_none (s : State) (i : Nat) (dest : FanState) :
    State.FieldWork s (s.enterHolding i dest none) :=
  (State.FieldWork.modifyFan s i _ fun _ => ⟨rfl, rfl, rfl, rfl, rfl, rfl, rfl, rfl⟩).trans
    (State.FieldWork.enterHolding s i dest none)

theorem State.FieldWork.toIdle (s : State) (i : Nat) : State.FieldWork s (s.toIdle i) := by
  unfold State.toIdle
  simp only
  refine (State.FieldWork.modifyFan s i (fun f => { f with state := .idle })
    fun _ => ⟨rfl, rfl, rfl, rfl, rfl, rfl, rfl, rfl⟩).trans ?_
  split
  · exact State.FieldWork.enterQueued ..
  · exact State.FieldWork.refl _

/-- Placing a fan whose TRIP is not to be acted on is work of the frame (R109). -/
theorem State.FieldWork.placeFan (s : State) (i : Nat) (h : (s.fan i).trip = false) :
    State.FieldWork s (s.placeFan i) := by
  unfold State.placeFan
  split
  · exact State.FieldWork.enterHolding_none ..
  · split
    · exact State.FieldWork.enterHolding_none ..
    · rw [if_neg (by simp [h])]
      split
      · exact State.FieldWork.toIdle ..
      · exact State.FieldWork.modifyFan _ _ _ fun _ => ⟨rfl, rfl, rfl, rfl, rfl, rfl, rfl, rfl⟩

theorem State.FieldWork.losePower (s : State) (i : Nat) : State.FieldWork s (s.losePower i false) := by
  unfold State.losePower
  split
  · rw [State.loseFan_false]
    exact State.FieldWork.enterHolding_none ..
  · exact State.FieldWork.refl s

/-- A DEAD feeder's fans lost with every report taken at once are work of the frame (R111). -/
theorem State.FieldWork.losePowers (s : State) (l : List Nat) : State.FieldWork s (s.losePowers false l) := by
  induction l generalizing s with
  | nil => exact State.FieldWork.refl s
  | cons i is ih =>
    rw [State.losePowers_cons, Bool.and_false]
    exact (State.FieldWork.losePower s i).trans (ih _)

theorem State.FieldWork.reportDead (s : State) (n : Nat) : State.FieldWork s (s.reportDead n false) :=
  State.FieldWork.losePowers s _

/-- What the frame keeps of the figures read from the image. -/
theorem State.FieldWork.statics {s t : State} (h : State.FieldWork s t) :
    t.coastTime = s.coastTime ∧ t.startTime = s.startTime ∧ t.feederOf = s.feederOf ∧ t.slots = s.slots
      ∧ t.feedbackAllowance = s.feedbackAllowance := by
  obtain ⟨-, h1, h2, h3, h4, h5, -⟩ := State.statics_congr h.image
  exact ⟨h1, h2, h4, h5, h3⟩

end Sys2Proof.Machine
end

