-- ==== Sys2Proof/Laws/Grants.lean ====
section
/-! SUPPORT. What a grant, and the consideration of a grant, can do: to the fans, to the granting feeder and to the
others (R134). -/

namespace Sys2Proof.Machine

/-- No fan is changed but those that were QUEUED and have been granted their start. -/
def State.OnlyStarts (s t : State) : Prop :=
  t.image = s.image ∧
    ∀ j, t.fan j = s.fan j ∨ (s.fan j).state = .queued ∧ ∃ d, t.fan j = (s.fan j).start d (s.startTime j)

theorem State.OnlyStarts.refl (s : State) : s.OnlyStarts s := ⟨rfl, fun _ => .inl rfl⟩

theorem State.OnlyStarts.trans {s t u : State} (a : s.OnlyStarts t) (b : t.OnlyStarts u) : s.OnlyStarts u := by
  refine ⟨b.1.trans a.1, fun j => ?_⟩
  have hst : t.startTime = s.startTime := (State.statics_congr a.1).2.2.1
  rcases a.2 j with ha | ⟨hq, d, ha⟩
  · rcases b.2 j with hb | ⟨hq, d, hb⟩
    · exact .inl (hb.trans ha)
    · exact .inr ⟨by rw [← ha]; exact hq, d, by rw [hb, ha, hst]⟩
  · rcases b.2 j with hb | ⟨hq', -, -⟩
    · exact .inr ⟨hq, d, hb.trans ha⟩
    · rw [ha] at hq'; exact absurd hq' (by simp [Fan.start])

/-- A fan that is not QUEUED is not changed by grants. -/
theorem State.OnlyStarts.keeps {s t : State} (h : s.OnlyStarts t) {j : Nat} (hj : (s.fan j).state ≠ .queued) :
    t.fan j = s.fan j := by
  rcases h.2 j with h | ⟨hq, -⟩
  · exact h
  · exact absurd hq hj

/-- Grants change no other fan than those that were waiting. -/
theorem State.OnlyStarts.others {s t : State} (h : s.OnlyStarts t) (i : Nat) : s.OthersOnlyStart i t :=
  fun j _ => h.2 j

theorem State.OnlyStarts.modifyFeeder (s : State) (n : Nat) (f : Feeder → Feeder) : s.OnlyStarts (s.modifyFeeder n f) :=
  ⟨rfl, fun _ => .inl rfl⟩

theorem State.OnlyStarts.onFeederOf (s : State) (i : Nat) (f : Feeder → Feeder) : s.OnlyStarts (s.onFeederOf i f) := by
  unfold State.onFeederOf
  split
  · exact State.OnlyStarts.modifyFeeder s _ f
  · exact State.OnlyStarts.refl s

theorem State.OnlyStarts.grantHead (s : State) (n : Nat) : s.OnlyStarts (s.grantHead n) := by
  unfold State.grantHead
  split
  · exact State.OnlyStarts.refl s
  · split
    · exact State.OnlyStarts.refl s
    · rename_i e _
      refine ⟨rfl, fun j => ?_⟩
      by_cases hj : j = e.fan
      · subst hj
        rcases Nat.lt_or_ge e.fan s.fanCount with hlt | hge
        · rw [State.fan_modifyFan_self (s.modifyFeeder n Feeder.takeHead) _ _ hlt]
          have hsame : (s.modifyFeeder n Feeder.takeHead).fan e.fan = s.fan e.fan := rfl
          rw [hsame]
          by_cases hq : (s.fan e.fan).state = .queued
          · exact .inr ⟨hq, e.dir, by simp [hq]⟩
          · exact .inl (by simp [hq])
        · rw [State.modifyFan_none (s.modifyFeeder n Feeder.takeHead) _ _ hge]; exact .inl rfl
      · rw [State.fan_modifyFan_ne _ _ _ _ hj]; exact .inl rfl

theorem State.OnlyStarts.grantLoop (k : Nat) (s : State) (n : Nat) : s.OnlyStarts (grantLoop k s n) := by
  induction k generalizing s with
  | zero => exact State.OnlyStarts.refl s
  | succ k ih =>
    unfold Machine.grantLoop
    split
    · exact (State.OnlyStarts.grantHead s n).trans (ih _)
    · exact State.OnlyStarts.refl s

theorem State.OnlyStarts.considerGrant (s : State) (n : Nat) : s.OnlyStarts (s.considerGrant n) :=
  State.OnlyStarts.grantLoop _ s n

theorem State.OnlyStarts.considerGrantFor (s : State) (i : Nat) : s.OnlyStarts (s.considerGrantFor i) := by
  unfold State.considerGrantFor
  split
  · exact State.OnlyStarts.considerGrant s _
  · exact State.OnlyStarts.refl s

/-- Freeing a slot changes no fan that is not QUEUED (R101, R134). -/
theorem State.OnlyStarts.freeSlot (s : State) (i : Nat) : s.OnlyStarts (s.freeSlot i) :=
  (State.OnlyStarts.onFeederOf s i _).trans (State.OnlyStarts.considerGrantFor _ i)

theorem State.OnlyStarts.requestStart (s : State) (i : Nat) (d : Direction) (c : DemandClass) :
    s.OnlyStarts (s.requestStart i d c) :=
  (State.OnlyStarts.onFeederOf s i _).trans (State.OnlyStarts.considerGrantFor _ i)

/-! ### What grants leave of the rest -/

/-- A grant touches nothing but the fans and the feeders. -/
theorem State.grantHead_rest (s : State) (n : Nat) :
    (s.grantHead n).line = s.line ∧ (s.grantHead n).events = s.events ∧ (s.grantHead n).link = s.link := by
  unfold State.grantHead
  split
  · exact ⟨rfl, rfl, rfl⟩
  · split <;> exact ⟨rfl, rfl, rfl⟩

theorem State.grantLoop_rest (k : Nat) (s : State) (n : Nat) :
    (grantLoop k s n).line = s.line ∧ (grantLoop k s n).events = s.events ∧ (grantLoop k s n).link = s.link := by
  induction k generalizing s with
  | zero => exact ⟨rfl, rfl, rfl⟩
  | succ k ih =>
    unfold grantLoop
    split
    · obtain ⟨h1, h2, h3⟩ := State.grantHead_rest s n
      obtain ⟨g1, g2, g3⟩ := ih (s.grantHead n)
      exact ⟨g1.trans h1, g2.trans h2, g3.trans h3⟩
    · exact ⟨rfl, rfl, rfl⟩

/-- The consideration of a grant touches nothing but the fans and the feeders. -/
theorem State.considerGrant_rest (s : State) (n : Nat) :
    (s.considerGrant n).line = s.line ∧ (s.considerGrant n).events = s.events ∧ (s.considerGrant n).link = s.link :=
  State.grantLoop_rest _ s n

/-- Freeing a slot touches nothing but the fans and the feeders. -/
theorem State.freeSlot_rest (s : State) (i : Nat) :
    (s.freeSlot i).line = s.line ∧ (s.freeSlot i).events = s.events ∧ (s.freeSlot i).link = s.link := by
  unfold State.freeSlot State.onFeederOf State.considerGrantFor
  split <;> (split <;> first | exact State.considerGrant_rest _ _ | exact ⟨rfl, rfl, rfl⟩)

/-- A start request touches nothing but the fans and the feeders. -/
theorem State.requestStart_rest (s : State) (i : Nat) (d : Direction) (c : DemandClass) :
    (s.requestStart i d c).line = s.line ∧ (s.requestStart i d c).events = s.events
      ∧ (s.requestStart i d c).link = s.link := by
  unfold State.requestStart State.onFeederOf State.considerGrantFor
  split <;> (split <;> first | exact State.considerGrant_rest _ _ | exact ⟨rfl, rfl, rfl⟩)

/-- Writing a demand touches nothing but the fans and the feeders: it reports nothing and raises nothing (R95). -/
theorem State.writeDemand_rest (s : State) (i : Nat) (d : Demand) :
    (s.writeDemand i d).line = s.line ∧ (s.writeDemand i d).events = s.events
      ∧ (s.writeDemand i d).link = s.link := by
  have hof : ∀ (u : State) (f : Feeder → Feeder),
      (u.onFeederOf i f).line = u.line ∧ (u.onFeederOf i f).events = u.events ∧ (u.onFeederOf i f).link = u.link := by
    intro u f
    unfold State.onFeederOf
    split <;> exact ⟨rfl, rfl, rfl⟩
  unfold State.writeDemand
  split
  · exact ⟨rfl, rfl, rfl⟩
  · unfold State.actOnDemand
    split
    · exact State.requestStart_rest _ _ _ _
    · exact hof _ _
    · exact hof _ _
    · exact State.freeSlot_rest _ _
    · split
      · exact ⟨rfl, rfl, rfl⟩
      · exact State.freeSlot_rest _ _
    · exact ⟨rfl, rfl, rfl⟩
    · split <;> exact ⟨rfl, rfl, rfl⟩
    · exact ⟨rfl, rfl, rfl⟩

/-! ### The granting feeder -/

/-- A grant on feeder `n` leaves every other feeder as it stands. -/
theorem State.grantHead_feeder_ne (s : State) (n m : Nat) (h : m ≠ n) :
    (s.grantHead n).feeders[m]? = s.feeders[m]? := by
  unfold State.grantHead
  split
  · rfl
  · split
    · rfl
    · simp [Ne.symm h]

/-- A grant on feeder `n` takes its head and raises its starting count by 1. -/
theorem State.grantHead_feeder (s : State) (n : Nat) (g : Feeder) (h : s.feeders[n]? = some g)
    (hh : g.head?.isSome = true) : (s.grantHead n).feeders[n]? = some g.takeHead := by
  unfold State.grantHead
  rw [h]
  obtain ⟨e, he⟩ := Option.isSome_iff_exists.mp hh
  simp [he, h]

theorem Feeder.takeHead_startingCount (g : Feeder) (h : g.head?.isSome = true) :
    g.takeHead.startingCount = g.startingCount + 1 := by
  unfold Feeder.head? at h
  unfold Feeder.takeHead
  split <;> rename_i hu hr <;> simp_all

@[simp] theorem State.grantHead_slots (s : State) (n : Nat) : (s.grantHead n).slots = s.slots := by
  have := (State.FieldWork.grantHead s n).statics
  exact this.2.2.2.1

theorem State.grantLoop_feeder_ne (k : Nat) (s : State) (n m : Nat) (h : m ≠ n) :
    (grantLoop k s n).feeders[m]? = s.feeders[m]? := by
  induction k generalizing s with
  | zero => rfl
  | succ k ih =>
    unfold grantLoop
    split
    · rw [ih, State.grantHead_feeder_ne s n m h]
    · rfl

/-- The consideration of a grant on feeder `n` leaves every other feeder as it stands. -/
theorem State.considerGrant_feeder_ne (s : State) (n m : Nat) (h : m ≠ n) :
    (s.considerGrant n).feeders[m]? = s.feeders[m]? := State.grantLoop_feeder_ne _ s n m h

/-- With as many grants allowed as slots are free, none is left to make. -/
theorem State.grantLoop_done (k : Nat) (s : State) (n : Nat)
    (h : ∀ g, s.feeders[n]? = some g → s.slots n ≤ g.startingCount + k) : (grantLoop k s n).canGrant n = false := by
  induction k generalizing s with
  | zero =>
    unfold grantLoop State.canGrant
    rcases hg : s.feeders[n]? with _ | g
    · rfl
    · have := h g hg
      have : ¬ g.startingCount < s.slots n := by omega
      simp [this]
  | succ k ih =>
    unfold grantLoop
    split
    · rename_i hc
      apply ih
      intro g' hg'
      rw [State.grantHead_slots]
      rcases hg : s.feeders[n]? with _ | g
      · simp [State.canGrant, hg] at hc
      · have hh : g.head?.isSome = true := by
          simp only [State.canGrant, hg, Bool.and_eq_true] at hc
          exact hc.2
        rw [State.grantHead_feeder s n g hg hh] at hg'
        cases hg'
        rw [Feeder.takeHead_startingCount g hh]
        have := h g hg
        omega
    · rename_i hc
      simpa using hc

/-- After the consideration of a grant no grant is left to make (R134). -/
theorem State.considerGrant_done (s : State) (n : Nat) : (s.considerGrant n).canGrant n = false :=
  State.grantLoop_done _ s n fun _ _ => by omega

/-- A feeder that cannot grant makes none. -/
theorem State.considerGrant_idle (s : State) (n : Nat) (h : s.canGrant n = false) : s.considerGrant n = s := by
  unfold State.considerGrant
  cases s.slots n with
  | zero => rfl
  | succ k => simp [grantLoop, h]

/-- A feeder that is not READY makes no grant. -/
theorem State.considerGrant_notReady (s : State) (n : Nat) (h : s.feederState n ≠ some .ready) :
    s.considerGrant n = s := by
  apply State.considerGrant_idle
  unfold State.canGrant
  unfold State.feederState at h
  rcases hg : s.feeders[n]? with _ | g
  · rfl
  · have : g.state ≠ .ready := by simpa [hg] using h
    simp [this]

/-- What it means that no grant is left: a READY feeder with a free slot has an empty queue. -/
theorem State.canGrant_false (s : State) (n : Nat) (g : Feeder) (h : s.canGrant n = false) (hg : s.feeders[n]? = some g)
    (hr : g.state = .ready) (hs : g.startingCount < s.slots n) : g.urgent = [] ∧ g.routine = [] := by
  have hh : g.head?.isSome = false := by simpa [State.canGrant, hg, hr, hs] using h
  unfold Feeder.head? at hh
  split at hh <;> simp_all

/-! ### The consideration of a grant, whole -/

theorem State.granted_feeder (s : State) (n : Nat) (g : Feeder) (h : s.feeders[n]? = some g) :
    s.granted n = (g.urgent ++ g.routine).take (if g.state = .ready then s.slots n - g.startingCount else 0) := by
  unfold State.granted
  rw [h]

/-- A feeder that cannot grant grants no entry. -/
theorem State.granted_nil (s : State) (n : Nat) (h : s.canGrant n = false) : s.granted n = [] := by
  unfold State.granted
  rcases hg : s.feeders[n]? with _ | g
  · rfl
  · by_cases hr : g.state = .ready
    · rcases Nat.lt_or_ge g.startingCount (s.slots n) with hlt | hge
      · obtain ⟨hu, hro⟩ := State.canGrant_false s n g h hg hr hlt
        simp [hu, hro]
      · simp [Nat.sub_eq_zero_of_le hge]
    · simp [hr]

/-- The head of a feeder that can grant is the first of the granted entries; the others are those that the feeder grants
after it. -/
theorem State.granted_cons (s : State) (n : Nat) (g : Feeder) (e : QueueEntry) (hc : s.canGrant n = true)
    (hg : s.feeders[n]? = some g) (he : g.head? = some e) :
    s.granted n = e :: (s.grantHead n).granted n ∧ g.urgent ++ g.routine = e :: (g.takeHead.urgent ++ g.takeHead.routine)
      := by
  have hq : g.urgent ++ g.routine = e :: (g.takeHead.urgent ++ g.takeHead.routine) := by
    unfold Feeder.head? at he
    unfold Feeder.takeHead
    rcases hu : g.urgent with _ | ⟨x, u⟩ <;> rcases hro : g.routine with _ | ⟨y, r⟩ <;> simp_all
  refine ⟨?_, hq⟩
  have hcan : g.state = .ready ∧ g.startingCount < s.slots n := by
    simp only [State.canGrant, hg, Bool.and_eq_true, decide_eq_true_eq] at hc
    exact hc.1
  have hh : g.head?.isSome = true := by rw [he]; rfl
  rw [State.granted_feeder s n g hg, State.granted_feeder _ n g.takeHead (State.grantHead_feeder s n g hg hh),
    Feeder.takeHead_state, Feeder.takeHead_startingCount g hh, State.grantHead_slots, if_pos hcan.1, hq]
  have := hcan.2
  rw [show s.slots n - g.startingCount = (s.slots n - (g.startingCount + 1)) + 1 by omega, if_pos hcan.1]
  rfl

/-- The head granted, whole (R98, R134). -/
theorem State.grantHead_eq (s : State) (n : Nat) (g : Feeder) (e : QueueEntry) (hg : s.feeders[n]? = some g)
    (he : g.head? = some e) : s.grantHead n = { s with
      feeders := s.feeders.modify n Feeder.takeHead
      fans := s.fans.modify e.fan (fun x => if x.state = .queued then x.start e.dir (s.startTime e.fan) else x) } := by
  unfold State.grantHead
  rw [hg]
  simp only [he]
  rfl

/-- The grants of `k` entries after the head are the grants of `k + 1` entries. -/
theorem Feeder.takeHead_grants (g : Feeder) (e : QueueEntry) (k : Nat) (he : g.head? = some e) :
    { g.takeHead with
      urgent := g.takeHead.urgent.drop k
      routine := g.takeHead.routine.drop (k - g.takeHead.urgent.length)
      startingCount := g.takeHead.startingCount + k } =
    { g with
      urgent := g.urgent.drop (k + 1)
      routine := g.routine.drop (k + 1 - g.urgent.length)
      startingCount := g.startingCount + (k + 1) } := by
  unfold Feeder.head? at he
  unfold Feeder.takeHead
  rcases hu : g.urgent with _ | ⟨x, u⟩
  · rcases hr : g.routine with _ | ⟨y, r⟩
    · simp [hu, hr] at he
    · simp only [Feeder.mk.injEq, true_and]
      exact ⟨by omega, by simp, by simp⟩
  · simp only [Feeder.mk.injEq, true_and]
    exact ⟨by omega, by simp, by simp⟩

/-- No grant made is a grant considered in vain. -/
theorem State.GrantsMade.refl (s : State) (n : Nat) (h : s.granted n = []) : s.GrantsMade n s where
  state := by
    have : s.feeders.modify n (fun f => f) = s.feeders := List.modify_id n s.feeders
    simp [h, this]
  fanCount := rfl
  fan j := by simp [h]

/-- A head granted, and then the grants that follow it. -/
theorem State.GrantsMade.step {s t : State} {n : Nat} (hc : s.canGrant n = true)
    (ht : (s.grantHead n).GrantsMade n t) : s.GrantsMade n t := by
  obtain ⟨g, hg⟩ : ∃ g, s.feeders[n]? = some g := by
    rcases hg : s.feeders[n]? with _ | g
    · simp [State.canGrant, hg] at hc
    · exact ⟨g, rfl⟩
  obtain ⟨e, he⟩ : ∃ e, g.head? = some e := by
    simp only [State.canGrant, hg, Bool.and_eq_true] at hc
    exact Option.isSome_iff_exists.mp hc.2
  obtain ⟨hcons, hq⟩ := State.granted_cons s n g e hc hg he
  have hs := State.grantHead_eq s n g e hg he
  have hfan : ∀ j, (s.grantHead n).fan j = if j = e.fan ∧ (s.fan j).state = .queued then
      (s.fan j).start e.dir (s.startTime j) else s.fan j := by
    intro j
    have hm : (s.grantHead n).fan j = (s.modifyFan e.fan
        (fun x => if x.state = .queued then x.start e.dir (s.startTime e.fan) else x)).fan j := by rw [hs]; rfl
    rw [hm]
    by_cases hj : j = e.fan
    · subst hj
      rcases Nat.lt_or_ge e.fan s.fanCount with hlt | hge
      · rw [State.fan_modifyFan_self _ _ _ hlt]; simp
      · rw [State.modifyFan_none _ _ _ hge]
        have : s.fan e.fan = Fan.afterReset := List.getD_eq_default _ _ hge
        simp [this, Fan.afterReset]
    · rw [State.fan_modifyFan_ne _ _ _ _ hj]; simp [hj]
  have hlen : (s.grantHead n).fans.length = s.fans.length := by rw [hs]; simp
  have hst : (s.grantHead n).startTime = s.startTime := by rw [hs]; rfl
  refine ⟨?_, ht.fanCount.trans hlen, fun j => ?_⟩
  · have h := ht.state
    rw [hs] at h
    rw [hcons]
    refine h.trans ?_
    have hf : (s.feeders.modify n Feeder.takeHead).modify n (fun f => { f with
          urgent := f.urgent.drop ((s.grantHead n).granted n).length
          routine := f.routine.drop (((s.grantHead n).granted n).length - f.urgent.length)
          startingCount := f.startingCount + ((s.grantHead n).granted n).length }) =
        s.feeders.modify n (fun f => { f with
          urgent := f.urgent.drop (e :: (s.grantHead n).granted n).length
          routine := f.routine.drop ((e :: (s.grantHead n).granted n).length - f.urgent.length)
          startingCount := f.startingCount + (e :: (s.grantHead n).granted n).length }) := by
      apply List.ext_getElem?
      intro m
      simp only [List.getElem?_modify]
      by_cases hm : n = m
      · subst hm
        simp only [hg, if_true]
        exact congrArg some (Feeder.takeHead_grants g e _ he)
      · simp [hm]
    rw [← hf, hs]
  · rw [ht.fan j, hcons, hst, List.find?_cons, hfan j]
    by_cases hj : e.fan = j
    · simp only [hj, decide_true, true_and]
      by_cases hq : (s.fan j).state = .queued
      · simp only [hq, if_true]
        split <;> simp [Fan.start]
      · simp only [hq, if_false]
        split <;> rfl
    · simp [hj, Ne.symm hj]

/-- The consideration of a grant, whole (R134). -/
theorem State.considerGrant_made (s : State) (n : Nat) : s.GrantsMade n (s.considerGrant n) := by
  have key : ∀ k (s : State), (∀ g, s.feeders[n]? = some g → s.slots n ≤ g.startingCount + k) →
      s.GrantsMade n (grantLoop k s n) := by
    intro k
    induction k with
    | zero =>
      intro s h
      refine State.GrantsMade.refl s n (State.granted_nil s n ?_)
      exact State.grantLoop_done 0 s n h
    | succ k ih =>
      intro s h
      unfold grantLoop
      split
      · rename_i hc
        refine State.GrantsMade.step hc (ih _ fun g' hg' => ?_)
        rw [State.grantHead_slots]
        rcases hg : s.feeders[n]? with _ | g
        · simp [State.canGrant, hg] at hc
        · have hh : g.head?.isSome = true := by
            simp only [State.canGrant, hg, Bool.and_eq_true] at hc
            exact hc.2
          rw [State.grantHead_feeder s n g hg hh] at hg'
          cases hg'
          rw [Feeder.takeHead_startingCount g hh]
          have := h g hg
          omega
      · rename_i hc
        exact State.GrantsMade.refl s n (State.granted_nil s n (by simpa using hc))
  exact key (s.slots n) s fun _ _ => by omega

/-- A grant considered on a fan's feeder, whole. -/
theorem State.considerGrantFor_made (s : State) (i : Nat) : s.GrantsFor i (s.considerGrantFor i) := by
  unfold State.considerGrantFor State.GrantsFor
  cases s.feederOf i with
  | none => rfl
  | some n => exact State.considerGrant_made s n

/-- Changing the record of a fan's feeder, whole. -/
theorem State.onFeederOf_eq (s : State) (i : Nat) (f : Feeder → Feeder) :
    s.onFeederOf i f = { s with feeders := s.feedersAt i f } := by
  unfold State.onFeederOf State.feedersAt
  cases s.feederOf i <;> rfl

/-- A slot freed, whole (R101, R133). -/
theorem State.freeSlot_freed (s : State) (i : Nat) : s.SlotFreed i (s.freeSlot i) := by
  unfold State.freeSlot State.SlotFreed
  rw [State.onFeederOf_eq]
  exact State.considerGrantFor_made _ i

/-- A fan's entry to QUEUED, whole (R97, R130). -/
theorem State.enterQueued_joined (s : State) (i : Nat) (d : Direction) (c : DemandClass) :
    s.Joined i d c (s.enterQueued i d c) := by
  unfold State.enterQueued State.requestStart State.Joined
  rw [State.onFeederOf_eq]
  have : (s.modifyFan i (fun f => { f with state := .queued })).feedersAt i
      (fun f => f.join { fan := i, dir := d } c) = s.feedersAt i (fun g => match c with
      | .urgent => { g with urgent := g.urgent ++ [{ fan := i, dir := d }] }
      | .routine => { g with routine := g.routine ++ [{ fan := i, dir := d }] }) := by
    unfold State.feedersAt
    cases c <;> rfl
  rw [this]
  exact State.considerGrantFor_made _ i

end Sys2Proof.Machine
end

