-- ==== Sys2Proof/Laws/Duty.lean ====
section
/-! SUPPORT. What writing a demand does to its fan and to the others, what a join and a departure do to the duty set,
and that the evaluation leaves a lost fan alone. -/

namespace Sys2Proof.Machine

/-! ### Writing a demand -/

/-- Writing a demand to fan `i` changes no other fan, but that a waiting fan may be granted its start (R95, R134). -/
theorem State.writeDemand_others (s : State) (i : Nat) (d : Demand) : s.OthersOnlyStart i (s.writeDemand i d) := by
  have hm : ∀ (f : Fan → Fan) (t : State), (s.modifyFan i f).OnlyStarts t → s.OthersOnlyStart i t := by
    intro f t h j hj
    have hsame : (s.modifyFan i f).fan j = s.fan j := State.fan_modifyFan_ne s i j f hj
    have := h.2 j
    rw [hsame] at this
    exact this
  have hm2 : ∀ (f g : Fan → Fan) (t : State), ((s.modifyFan i f).modifyFan i g).OnlyStarts t → s.OthersOnlyStart i t := by
    intro f g t h j hj
    have hsame : ((s.modifyFan i f).modifyFan i g).fan j = s.fan j := by simp [hj]
    have := h.2 j
    rw [hsame] at this
    exact this
  unfold State.writeDemand
  split
  · exact (State.OnlyStarts.refl s).others i
  · unfold State.actOnDemand
    split
    · exact hm2 _ _ _ (State.OnlyStarts.requestStart _ _ _ _)
    · intro j hj
      refine .inl ?_
      unfold State.leaveQueue
      rw [State.fan_modifyFan_ne _ _ _ _ hj]
      unfold State.onFeederOf
      split
      · exact State.fan_modifyFan_ne s i j _ hj
      · exact State.fan_modifyFan_ne s i j _ hj
    · exact hm _ _ (State.OnlyStarts.onFeederOf _ _ _)
    · exact hm2 _ _ _ (State.OnlyStarts.freeSlot _ _)
    · split
      · exact hm _ _ (State.OnlyStarts.refl _)
      · exact hm2 _ _ _ (State.OnlyStarts.freeSlot _ _)
    · exact hm2 _ _ _ (State.OnlyStarts.refl _)
    · split
      · exact hm _ _ (State.OnlyStarts.refl _)
      · exact hm2 _ _ _ (State.OnlyStarts.refl _)
    · exact hm _ _ (State.OnlyStarts.refl _)

/-- A fan that is not QUEUED is not changed by a demand written to another fan. -/
theorem State.writeDemand_keeps (s : State) (i j : Nat) (d : Demand) (hj : j ≠ i) (hq : (s.fan j).state ≠ .queued) :
    (s.writeDemand i d).fan j = s.fan j := by
  rcases State.writeDemand_others s i d j hj with h | ⟨h, -⟩
  · exact h
  · exact absurd h hq

/-- A demand written to a fan in a holding state is stored and acted on by nothing (R96). -/
theorem State.writeDemand_holding (s : State) (i : Nat) (d : Demand) (h : (s.fan i).state.isHolding = true) :
    s.writeDemand i d = if (s.fan i).demand = d then s else s.modifyFan i (fun f => { f with demand := d }) := by
  unfold State.writeDemand
  split
  · rfl
  · have hst : ((s.modifyFan i (fun f => { f with demand := d })).fan i).state = (s.fan i).state := by
      rcases Nat.lt_or_ge i s.fanCount with hlt | hge
      · rw [State.fan_modifyFan_self s i _ hlt]
      · rw [State.modifyFan_none s i _ hge]
    unfold State.actOnDemand
    rw [hst]
    cases hs : (s.fan i).state <;> rw [hs] at h <;> simp_all [FanState.isHolding, FanState.isWorking]

/-! ### Stopping every fan -/

/-- Grants leave every demand. -/
theorem State.OnlyStarts.demand {s t : State} (h : s.OnlyStarts t) (j : Nat) : (t.fan j).demand = (s.fan j).demand := by
  rcases h.2 j with h | ⟨-, d, h⟩ <;> rw [h]
  rfl

/-- A change of a fan that leaves its demand leaves every demand. -/
theorem State.modifyFan_demand (s : State) (i : Nat) (f : Fan → Fan) (h : ∀ g, (f g).demand = g.demand) (j : Nat) :
    ((s.modifyFan i f).fan j).demand = (s.fan j).demand :=
  State.fan_modifyFan_prop (P := fun a b => b.demand = a.demand) s i f (fun _ => rfl) h j

/-- Acting on a demand leaves every demand as it stands (R96). -/
theorem State.actOnDemand_demand (s : State) (i : Nat) (d : Demand) (j : Nat) :
    ((s.actOnDemand i d).fan j).demand = (s.fan j).demand := by
  have coast : ((s.toCoasting i).fan j).demand = (s.fan j).demand := by
    apply State.modifyFan_demand; intro; rfl
  have abandon : ((s.abandonStart i).fan j).demand = (s.fan j).demand :=
    ((State.OnlyStarts.freeSlot (s.toCoasting i) i).demand j).trans coast
  unfold State.actOnDemand
  split
  · refine ((State.OnlyStarts.requestStart _ i _ _).demand j).trans ?_
    apply State.modifyFan_demand; intro; rfl
  · refine Eq.trans ?_ ((State.OnlyStarts.onFeederOf s i (fun f => f.remove i)).demand j)
    apply State.modifyFan_demand; intro; rfl
  · exact (State.OnlyStarts.onFeederOf s i _).demand j
  · exact abandon
  · exact ite_keeps (P := fun t : State => (t.fan j).demand = (s.fan j).demand) rfl abandon
  · exact coast
  · exact ite_keeps (P := fun t : State => (t.fan j).demand = (s.fan j).demand) rfl coast
  · rfl

/-- After a demand has been written the fan holds it (R95). -/
theorem State.writeDemand_demand (s : State) (i : Nat) (d : Demand) (hi : i < s.fanCount) :
    ((s.writeDemand i d).fan i).demand = d := by
  unfold State.writeDemand
  split
  · assumption
  · rw [State.actOnDemand_demand, State.fan_modifyFan_self s i _ hi]

/-- Writing a demand to fan `i` leaves every other fan's demand. -/
theorem State.writeDemand_demand_ne (s : State) (i j : Nat) (d : Demand) (hj : j ≠ i) :
    ((s.writeDemand i d).fan j).demand = (s.fan j).demand := by
  rcases State.writeDemand_others s i d j hj with h | ⟨-, x, h⟩ <;> rw [h]
  rfl

/-- NONE written along a list of fans: every one of them holds it in the end. -/
theorem forEach_writeNone_demand (s : State) (l : List Nat) (i : Nat) (hi : i < s.fanCount)
    (h : i ∈ l ∨ (s.fan i).demand = .none) :
    ((forEach (fun s i => s.writeDemand i .none) s l).fan i).demand = .none := by
  induction l generalizing s with
  | nil => exact h.resolve_left (by simp)
  | cons j js ih =>
    have hc : (s.writeDemand j .none).fanCount = s.fanCount := (State.FieldWork.writeDemand s j .none).fanCount
    refine ih (s.writeDemand j .none) (hc ▸ hi) ?_
    by_cases hj : i = j
    · subst hj; exact .inr (State.writeDemand_demand s i .none hi)
    · rw [State.writeDemand_demand_ne s j i .none hj]
      exact h.imp_left fun hm => (List.mem_cons.mp hm).resolve_left hj

/-- After every fan has been stopped each holds NONE (R19). -/
theorem State.stopEveryFan_demand (s : State) (i : Nat) (hi : i < s.fanCount) :
    (s.stopEveryFan.fan i).demand = .none := by
  refine forEach_writeNone_demand _ _ i ?_ (.inl (List.mem_range.mpr hi))
  have h : (forEach State.stopQueued s (List.range s.fanCount)).fanCount = s.fanCount :=
    (State.FieldWork.forEach State.FieldWork.stopQueued s _).fanCount
  exact lt_of_lt_of_eq hi h.symm

/-- Stopping every fan touches nothing but the fans and the feeders. -/
theorem State.stopEveryFan_rest (s : State) :
    s.stopEveryFan.line = s.line ∧ s.stopEveryFan.events = s.events ∧ s.stopEveryFan.link = s.link := by
  let same : State → State → Prop := fun a b => b.line = a.line ∧ b.events = a.events ∧ b.link = a.link
  have trans : ∀ a b c, same a b → same b c → same a c := fun _ _ _ x y =>
    ⟨y.1.trans x.1, y.2.1.trans x.2.1, y.2.2.trans x.2.2⟩
  refine trans _ _ _ (forEach_rel (R := same) (fun _ => ⟨rfl, rfl, rfl⟩) trans (fun u i => ?_) s (List.range s.fanCount))
    (forEach_rel (R := same) (fun _ => ⟨rfl, rfl, rfl⟩) trans (fun u i => State.writeDemand_rest u i .none) _ _)
  exact ite_keeps (P := same u) (State.writeDemand_rest u i .none) ⟨rfl, rfl, rfl⟩

/-! ### Joining and leaving -/

theorem State.isMember_congr {s t : State} (h : t.line.duty = s.line.duty) (i : Nat) : t.isMember i = s.isMember i := by
  simp [State.isMember, h]

/-- A join puts the fan at the end of the duty set (R53). -/
theorem State.joinMember_duty (s : State) (d : Direction) (i : Nat) (r : JoinReason) (n : Nat) :
    (s.joinMember d i r n).line.duty =
      s.line.duty ++ [{ fan := i, reason := r, counted := n, expired := (s.fan i).expired }] := by
  unfold State.joinMember
  rw [(State.writeDemand_rest _ _ _).1]
  rfl

/-- A departure takes every member record of the fan (R54). -/
theorem State.removeMember_duty (s : State) (i : Nat) :
    (s.removeMember i).line.duty = s.line.duty.filter (fun m => !decide (m.fan = i)) := by
  unfold State.removeMember
  rw [(State.writeDemand_rest _ _ _).1]
  rfl

theorem State.isMember_joinMember (s : State) (d : Direction) (i j : Nat) (r : JoinReason) (n : Nat) :
    (s.joinMember d i r n).isMember j = (s.isMember j || decide (i = j)) := by
  unfold State.isMember
  rw [State.joinMember_duty, List.any_append]
  simp

theorem State.isMember_removeMember (s : State) (i j : Nat) :
    (s.removeMember i).isMember j = (s.isMember j && !decide (j = i)) := by
  unfold State.isMember
  rw [State.removeMember_duty]
  apply Bool.eq_iff_iff.mpr
  simp only [List.any_eq_true, List.mem_filter, Bool.and_eq_true, Bool.not_eq_true', decide_eq_false_iff_not,
    decide_eq_true_eq]
  constructor
  · rintro ⟨m, ⟨hm, hne⟩, rfl⟩
    exact ⟨⟨m, hm, rfl⟩, hne⟩
  · rintro ⟨⟨m, hm, rfl⟩, hne⟩
    exact ⟨m, ⟨hm, hne⟩, rfl⟩

/-- The fan is lost and no member: the state has it as `f`, in a holding state, outside the duty set. -/
def State.Lost (s : State) (i : Nat) (f : Fan) : Prop :=
  s.fan i = f ∧ s.isMember i = false ∧ f.state.isHolding = true

theorem FanState.ne_queued_of_holding {x : FanState} (h : x.isHolding = true) : x ≠ .queued := by
  intro hq; subst hq; simp [FanState.isHolding, FanState.isWorking] at h

theorem State.Lost.joinMember {s : State} {i : Nat} {f : Fan} (h : s.Lost i f) (d : Direction) (j : Nat)
    (r : JoinReason) (n : Nat) (hj : j ≠ i) : (s.joinMember d j r n).Lost i f := by
  refine ⟨?_, ?_, h.2.2⟩
  · unfold State.joinMember
    refine (State.writeDemand_keeps _ j i _ (Ne.symm hj) ?_).trans h.1
    have := FanState.ne_queued_of_holding h.2.2
    rw [← h.1] at this
    exact this
  · rw [State.isMember_joinMember, h.2.1]; simp [hj]

theorem State.Lost.removeMember {s : State} {i : Nat} {f : Fan} (h : s.Lost i f) (j : Nat) (hj : j ≠ i) :
    (s.removeMember j).Lost i f := by
  refine ⟨?_, ?_, h.2.2⟩
  · unfold State.removeMember
    refine (State.writeDemand_keeps _ j i _ (Ne.symm hj) ?_).trans h.1
    have := FanState.ne_queued_of_holding h.2.2
    rw [← h.1] at this
    exact this
  · rw [State.isMember_removeMember, h.2.1]; rfl

theorem State.Lost.forEach {i : Nat} {f : Fan} {op : State → Nat → State}
    (hop : ∀ s j, s.Lost i f → j ≠ i → (op s j).Lost i f) {s : State} (h : s.Lost i f) (l : List Nat)
    (hl : i ∉ l) : (forEach op s l).Lost i f := by
  induction l generalizing s with
  | nil => exact h
  | cons j js ih =>
    simp only [List.mem_cons, not_or] at hl
    exact ih (hop s j h (Ne.symm hl.1)) hl.2

theorem State.Lost.member_ne {s : State} {i : Nat} {f : Fan} (h : s.Lost i f) {m : Member} (hm : m ∈ s.line.duty) :
    m.fan ≠ i := by
  intro he
  have := h.2.1
  unfold State.isMember at this
  rw [List.any_eq_false] at this
  exact this m hm (by simp [he])

theorem State.Lost.sweep {s : State} {i : Nat} {f : Fan} (h : s.Lost i f) : s.sweep.Lost i f := by
  refine h.forEach (fun t j ht hj => ht.removeMember j hj) _ ?_
  intro hi
  simp only [List.mem_map, List.mem_filter] at hi
  obtain ⟨m, ⟨hm, -⟩, he⟩ := hi
  exact h.member_ne hm he

theorem State.Lost.recompute {s : State} {i : Nat} {f : Fan} (h : s.Lost i f) (sc : Scenario) :
    (s.recompute sc).Lost i f := by
  refine ⟨h.1, ?_, h.2.2⟩
  have := h.2.1
  unfold State.isMember at this ⊢
  simp only [State.recompute, State.setDuty_line, List.any_map]
  exact this

theorem State.Lost.modifyScenario {s : State} {i : Nat} {f : Fan} (h : s.Lost i f) (g : Scenario → Scenario) :
    (s.modifyScenario g).Lost i f := ⟨h.1, h.2.1, h.2.2⟩

theorem State.Lost.recordShortfall {s : State} {i : Nat} {f : Fan} (h : s.Lost i f) (b : Bool) :
    (s.recordShortfall b).Lost i f := ⟨h.1, h.2.1, h.2.2⟩

theorem State.Lost.not_candidate {s : State} {i : Nat} {f : Fan} (h : s.Lost i f) (sc : Scenario) :
    i ∉ s.candidates sc := by
  intro hi
  have := (List.mem_filter.mp hi).2
  simp only [State.isCandidate, h.1, Bool.and_eq_true] at this
  have hh := h.2.2
  simp [FanState.isHolding, this.2] at hh

theorem State.Lost.joinAll {s : State} {i : Nat} {f : Fan} (h : s.Lost i f) (sc : Scenario) (l : List Nat)
    (hl : i ∉ l) : (joinAll sc s l).Lost i f :=
  h.forEach (fun _ _ ht hj => ht.joinMember _ _ _ _ hj) l hl

theorem State.Lost.joinNeeded {i : Nat} {f : Fan} (sc : Scenario) (n : Nat) (l : List Nat) {s : State} (k : Nat)
    (h : s.Lost i f) (hl : i ∉ l) : (joinNeeded sc n s k l).1.Lost i f ∧ i ∉ (joinNeeded sc n s k l).2.2 := by
  induction l generalizing s k with
  | nil => exact ⟨h, by simp [Machine.joinNeeded]⟩
  | cons j js ih =>
    unfold Machine.joinNeeded
    split
    · exact ⟨h, hl⟩
    · simp only [List.mem_cons, not_or] at hl
      exact ih _ (h.joinMember _ _ _ _ (Ne.symm hl.1)) hl.2

theorem State.Lost.joinToSize {i : Nat} {f : Fan} (sc : Scenario) (n k r : Nat) (l : List Nat) {s : State}
    (h : s.Lost i f) (hl : i ∉ l) : (joinToSize sc n k r s l).Lost i f := by
  induction l generalizing s with
  | nil => exact h
  | cons j js ih =>
    unfold Machine.joinToSize
    simp only [List.mem_cons, not_or] at hl
    simp only
    split
    · exact ih (h.joinMember _ _ _ _ (Ne.symm hl.1)) hl.2
    · exact h

theorem State.Lost.releaseLast {s : State} {i : Nat} {f : Fan} (h : s.Lost i f) : s.releaseLast.Lost i f := by
  unfold State.releaseLast
  split
  · rename_i m hm
    have hmem : m ∈ nonExpired s.line.duty := List.mem_of_getLast? hm
    exact h.removeMember _ (h.member_ne (List.mem_filter.mp hmem).1)
  · exact h

theorem State.Lost.releaseMany {i : Nat} {f : Fan} (n : Nat) {s : State} (h : s.Lost i f) :
    (releaseMany n s).Lost i f := by
  induction n generalizing s with
  | zero => exact h
  | succ n ih => exact ih h.releaseLast

/-- The evaluation leaves a lost fan that is no member as it stands, and does not join it (R55, R56). -/
theorem State.Lost.evaluate {s : State} {i : Nat} {f : Fan} (h : s.Lost i f) : s.evaluate.Lost i f := by
  unfold State.evaluate
  split
  · exact h
  · rename_i sc _
    simp only
    have hr : (((s.modifyScenario (fun x => { x with required := s.requiredFor sc })).sweep).recompute sc).Lost i f :=
      ((h.modifyScenario _).sweep).recompute sc
    split
    · exact (hr.joinAll sc _ (hr.not_candidate sc)).recordShortfall _
    · unfold State.evaluateSize
      simp only
      apply State.Lost.recordShortfall
      have hj := State.Lost.joinNeeded sc (s.requiredFor sc) _
        ((nonExpired (((s.modifyScenario (fun x => { x with required := s.requiredFor sc })).sweep).recompute sc).line.duty).map
          (fun m => m.counted)).sum hr (hr.not_candidate sc)
      exact ite_keeps (P := fun t : State => t.Lost i f) (State.Lost.joinToSize sc _ _ _ _ hj.1 hj.2)
        (State.Lost.releaseMany _ hj.1)

/-- The report of a fan that has just been lost: it is no member afterwards, its demand is NONE if it was one, and it is
not changed otherwise (R69, R113). -/
theorem State.reportLoss_lost (s : State) (i : Nat) (h : (s.fan i).state.isHolding = true) (hi : i < s.fanCount) :
    (s.reportLoss i).Lost i (if s.isMember i then { s.fan i with demand := .none } else s.fan i) := by
  unfold State.reportLoss
  split
  · rename_i hm
    apply State.Lost.evaluate
    have hfan : (s.removeMember i).fan i = { s.fan i with demand := .none } := by
      unfold State.removeMember
      rw [State.writeDemand_holding _ _ _ (by exact h)]
      split
      · rename_i hd
        have hd' : (s.fan i).demand = .none := hd
        exact congrArg (fun d => { s.fan i with demand := d }) hd'
      · rw [State.fan_modifyFan_self _ _ _ (by exact hi)]
        rfl
    exact ⟨by rw [hfan], by rw [State.isMember_removeMember]; simp, h⟩
  · rename_i hm
    exact ⟨rfl, by simpa using hm, h⟩

/-- The fan of an entry to a holding state before the report: RUN off, the new state, the fault it leaves (R113). -/
theorem State.holdFan_fan (s : State) (i : Nat) (dest : FanState) (fault : Option LastFault) (hi : i < s.fanCount)
    (hd : dest.isHolding = true) :
    (s.holdFan i dest fault).fan i =
      { (s.fan i).stopRun s.feedbackAllowance with
        state := dest
        lastFault := fault.getD (s.fan i).lastFault
        stuckTimer := if dest = .failed then none else ((s.fan i).stopRun s.feedbackAllowance).stuckTimer } := by
  unfold State.holdFan
  simp only
  set b := s.modifyFan i (fun f =>
    { f.stopRun s.feedbackAllowance with
      state := dest
      lastFault := fault.getD (f.stopRun s.feedbackAllowance).lastFault
      stuckTimer := if dest = .failed then none else (f.stopRun s.feedbackAllowance).stuckTimer }) with hb
  have hfan : b.fan i =
      { (s.fan i).stopRun s.feedbackAllowance with
        state := dest
        lastFault := fault.getD (s.fan i).lastFault
        stuckTimer := if dest = .failed then none else ((s.fan i).stopRun s.feedbackAllowance).stuckTimer } := by
    rw [hb, State.fan_modifyFan_self s i _ hi]
    have : ((s.fan i).stopRun s.feedbackAllowance).lastFault = (s.fan i).lastFault := by
      unfold Fan.stopRun; split <;> rfl
    simp [this]
  have hnq : (b.fan i).state ≠ .queued := by rw [hfan]; exact FanState.ne_queued_of_holding hd
  have key : ∀ c : State, b.OnlyStarts c →
      (if dest = .tripped ∨ dest = .failed then c.raise .fanFault else c).fan i = b.fan i := by
    intro c hc
    split
    · exact hc.keeps hnq
    · exact hc.keeps hnq
  rw [← hfan]
  apply key
  split
  · exact State.OnlyStarts.onFeederOf _ _ _
  · split
    · exact State.OnlyStarts.freeSlot _ _
    · exact State.OnlyStarts.refl _

theorem State.holdFan_line (s : State) (i : Nat) (dest : FanState) (fault : Option LastFault) :
    (s.holdFan i dest fault).line = s.line := by
  unfold State.holdFan
  simp only
  have key : ∀ c : State, c.line = s.line →
      (if dest = .tripped ∨ dest = .failed then c.raise .fanFault else c).line = s.line := by
    intro c hc
    split <;> exact hc
  apply key
  split
  · unfold State.onFeederOf; split <;> rfl
  · split
    · exact (State.freeSlot_rest _ _).1
    · rfl

/-- An entry to a holding state, whole: the fan stands in it with RUN off, its coast timer restarted if RUN was on; it
is no member of the duty set, and has lost its demand if it was one (R69, R103, R113). -/
theorem State.enterHolding_fan (s : State) (i : Nat) (dest : FanState) (fault : Option LastFault) (hi : i < s.fanCount)
    (hd : dest.isHolding = true) :
    ((s.enterHolding i dest fault).fan i).state = dest ∧ ((s.enterHolding i dest fault).fan i).run = false
      ∧ ((s.enterHolding i dest fault).fan i).dirOut = (s.fan i).dirOut
      ∧ ((s.enterHolding i dest fault).fan i).coastTimer = (if (s.fan i).run then 0 else (s.fan i).coastTimer)
      ∧ ((s.enterHolding i dest fault).fan i).lastFault = fault.getD (s.fan i).lastFault
      ∧ (dest = .failed → ((s.enterHolding i dest fault).fan i).stuckTimer = none)
      ∧ ((s.enterHolding i dest fault).fan i).demand = (if s.isMember i then .none else (s.fan i).demand)
      ∧ (s.enterHolding i dest fault).isMember i = false := by
  have hf := State.holdFan_fan s i dest fault hi hd
  have hc : i < (s.holdFan i dest fault).fanCount := by
    have := (State.FieldWork.holdFan s i dest fault).fanCount
    unfold State.fanCount at hi ⊢
    simpa [this] using hi
  have hh : ((s.holdFan i dest fault).fan i).state.isHolding = true := by rw [hf]; exact hd
  have hl := State.reportLoss_lost _ i hh hc
  have hm : (s.holdFan i dest fault).isMember i = s.isMember i :=
    State.isMember_congr (by rw [State.holdFan_line]) i
  unfold State.enterHolding
  rw [hm] at hl
  obtain ⟨h1, h2, -⟩ := hl
  rw [h1, hf]
  have hs1 : ((s.fan i).stopRun s.feedbackAllowance).run = false := by
    unfold Fan.stopRun Fan.runOff; split <;> simp_all
  have hs2 : ((s.fan i).stopRun s.feedbackAllowance).dirOut = (s.fan i).dirOut := by
    unfold Fan.stopRun Fan.runOff; split <;> rfl
  have hs3 : ((s.fan i).stopRun s.feedbackAllowance).coastTimer =
      (if (s.fan i).run then 0 else (s.fan i).coastTimer) := by
    unfold Fan.stopRun Fan.runOff; split <;> rfl
  have hs4 : ((s.fan i).stopRun s.feedbackAllowance).demand = (s.fan i).demand := by
    unfold Fan.stopRun Fan.runOff; split <;> rfl
  refine ⟨?_, ?_, ?_, ?_, ?_, ?_, ?_, h2⟩ <;> by_cases hmem : s.isMember i <;> simp [hmem, hs1, hs2, hs3, hs4] <;>
    intro hfail <;> simp [hfail]

/-! ### An entry to a holding state, and its report -/

/-- All that the fan supervisor does at an entry to a holding state before it reports (R113). -/
theorem State.holdFan_held (s : State) (i : Nat) (dest : FanState) (cause : Option LastFault)
    (hd : dest.isHolding = true) : s.Held i dest cause (s.holdFan i dest cause) := by
  let a := s.modifyFan i (fun f =>
    let g := f.stopRun s.feedbackAllowance
    { g with
      state := dest
      lastFault := cause.getD g.lastFault
      stuckTimer := if dest = .failed then none else g.stuckTimer })
  let b := if (s.fan i).state = .queued then a.onFeederOf i (fun f => f.remove i)
    else if (s.fan i).state.isStarting then a.freeSlot i else a
  have hu : s.holdFan i dest cause = if dest = .tripped ∨ dest = .failed then b.raise .fanFault else b := rfl
  have hstarts : a.OnlyStarts b := ite_keeps (P := a.OnlyStarts) (State.OnlyStarts.onFeederOf a i _)
    (ite_keeps (P := a.OnlyStarts) (State.OnlyStarts.freeSlot a i) (State.OnlyStarts.refl a))
  have hrest : b.line = s.line ∧ b.events = s.events ∧ b.link = s.link := by
    refine ite_keeps (P := fun t : State => t.line = s.line ∧ t.events = s.events ∧ t.link = s.link) ?_
      (ite_keeps (P := fun t : State => t.line = s.line ∧ t.events = s.events ∧ t.link = s.link)
        (State.freeSlot_rest a i) ⟨rfl, rfl, rfl⟩)
    unfold State.onFeederOf
    split <;> exact ⟨rfl, rfl, rfl⟩
  have hfans : (s.holdFan i dest cause).fans = b.fans ∧ (s.holdFan i dest cause).feeders = b.feeders ∧
      (s.holdFan i dest cause).line = b.line ∧ (s.holdFan i dest cause).link = b.link ∧
      (s.holdFan i dest cause).events.levels = b.events.levels := by
    rw [hu]
    split <;> exact ⟨rfl, rfl, rfl, rfl, rfl⟩
  have hfan : ∀ j, (s.holdFan i dest cause).fan j = b.fan j := fun j => by unfold State.fan; rw [hfans.1]
  have hne : ∀ j, j ≠ i → a.fan j = s.fan j := fun j hj => State.fan_modifyFan_ne s i j _ hj
  have ha : a = s.modifyFan i (fun f => f.heldIn dest cause s.feedbackAllowance) := by
    refine congrArg (s.modifyFan i) (funext fun f => ?_)
    unfold Fan.stopRun Fan.runOff Fan.heldIn
    cases hr : f.run <;> simp [hr]
  have ha' : a.fans = s.fans.modify i (fun f => f.heldIn dest cause s.feedbackAllowance) := by rw [ha]; rfl
  have hwithout : (fun g : Feeder => g.remove i) = fun g => g.without i := by
    funext g
    simp [Feeder.remove, Feeder.without]
  refine { work := ?_, line := hfans.2.2.1.trans hrest.1, link := hfans.2.2.2.1.trans hrest.2.2,
           levels := hfans.2.2.2.2.trans (by rw [hrest.2.1]), fan := fun hi => ?_, others := fun j hj => ?_,
           fault := fun h => ?_, noFault := fun h1 h2 => ?_, kinds := fun k hk => ?_, entry := fun h => ?_,
           slot := fun h => ?_, fans := fun h => ?_, rest := fun h1 h2 => ?_ }
  · exact State.FieldWork.holdFan s i dest cause
  · rw [State.holdFan_fan s i dest cause hi hd]
    unfold Fan.stopRun Fan.runOff Fan.heldIn
    cases hr : (s.fan i).run <;> simp [hr]
  · rw [hfan, ← hne j hj]
    exact hstarts.2 j
  · rw [hu, if_pos h]
    exact EventLatch.raise_shows _ _
  · rw [hu, if_neg (by simp [h1, h2])]
    exact hrest.2.1
  · rw [hu, ← hrest.2.1]
    exact ite_keeps (P := fun t : State => t.events.set.getLsbD k.bit = b.events.set.getLsbD k.bit)
      (EventLatch.raise_other _ _ _ hk) rfl
  · have hb : b = a.onFeederOf i (fun f => f.remove i) := if_pos h
    rw [hfans.2.1, hb, State.onFeederOf_eq, ← hwithout]
    rfl
  · have hq : (s.fan i).state ≠ .queued := by intro hq; simp [hq, FanState.isStarting] at h
    have hb : b = a.freeSlot i := (if_neg hq).trans (if_pos h)
    exact ⟨a.freeSlot i, ha ▸ State.freeSlot_freed a i, by rw [hfans.1, hb], by rw [hfans.2.1, hb]⟩
  · rw [hfans.1, ← ha']
    refine ite_keeps (P := fun t : State => t.fans = a.fans) ?_ ?_
    · rw [State.onFeederOf_eq]
    · rw [if_neg (by simp [h])]
  · have hb : b = a := (if_neg h1).trans (if_neg (by simp [h2]))
    exact hfans.2.1.trans (by rw [hb]; rfl)

/-! ### Demands and placings, whole -/

theorem Feeder.remove_eq_without (g : Feeder) (i : Nat) : g.remove i = g.without i := by
  simp [Feeder.remove, Feeder.without]

theorem Feeder.retarget_eq_retaken (g : Feeder) (i : Nat) (d : Direction) (c : DemandClass) :
    g.retarget i d c = g.retaken i d c := by
  have hg : g.inGroup i c = true ↔ i ∈ (g.group c).map (fun e => e.fan) := by
    cases c <;> simp [Feeder.inGroup, Feeder.group]
  unfold Feeder.retarget Feeder.retaken
  by_cases h : g.inGroup i c = true
  · rw [if_pos h, if_pos (hg.mp h)]
    rfl
  · rw [if_neg h, if_neg (fun x => h (hg.mpr x)), Feeder.remove_eq_without]
    cases c <;> rfl

/-- Two changes of one fan are one. -/
theorem State.modifyFan_modifyFan (s : State) (i : Nat) (f g : Fan → Fan) :
    (s.modifyFan i f).modifyFan i g = s.modifyFan i (fun x => g (f x)) := by
  unfold State.modifyFan
  simp only [List.modify_modify_eq]
  rfl

/-- Writing a demand, whole (R95, R96). -/
theorem State.writeDemand_written (s : State) (i : Nat) (d : Demand) : s.DemandWritten i d (s.writeDemand i d) := by
  let held := s.modifyFan i (fun f => { f with demand := d })
  have hst : (held.fan i).state = (s.fan i).state := by
    rcases Nat.lt_or_ge i s.fanCount with hlt | hge
    · rw [State.fan_modifyFan_self s i _ hlt]
    · rw [show held = s from State.modifyFan_none s i _ hge]
  have hne : (s.fan i).demand ≠ d → s.writeDemand i d = held.actOnDemand i d := fun h => if_neg h
  have hcoast : held.toCoasting i = s.modifyFan i (fun f => { f with
      demand := d, state := .coasting, run := false, coastTimer := 0
      stuckTimer := if f.fb then some s.feedbackAllowance else none }) := by
    unfold State.toCoasting
    rw [State.modifyFan_modifyFan]
    rfl
  constructor
  · intro h
    exact if_pos h
  · intro h hc
    rw [hne h]
    unfold State.actOnDemand
    rw [hst]
    rcases hc with ⟨hs, rfl⟩ | hs | hs | ⟨x, c, hs, rfl⟩
    · rw [hs]
    · rw [hs]
    · cases hf : (s.fan i).state <;> rw [hf] at hs <;> first | rfl | simp [FanState.isHolding, FanState.isWorking] at hs
    · cases hf : (s.fan i).state <;> rw [hf] at hs <;>
        first | (simp only [FanState.dir?, Option.some.injEq] at hs; subst hs; simp [held]) | simp [FanState.dir?] at hs
  · rintro h hs x c rfl
    rw [hne h]
    unfold State.actOnDemand
    rw [hst, hs]
    exact State.enterQueued_joined held i x c
  · rintro h hs rfl
    rw [hne h]
    unfold State.actOnDemand
    rw [hst, hs]
    simp only
    unfold State.leaveQueue
    rw [State.onFeederOf_eq]
    have : held.feedersAt i (fun f => f.remove i) = s.feedersAt i (fun g => g.without i) := by
      rw [funext fun g => Feeder.remove_eq_without g i]
      rfl
    rw [this]
    simp only [State.modifyFan, List.modify_modify_eq, held]
    rfl
  · rintro h hs x c rfl
    rw [hne h]
    unfold State.actOnDemand
    rw [hst, hs]
    simp only
    rw [State.onFeederOf_eq, funext fun g => Feeder.retarget_eq_retaken g i x c]
    rfl
  · intro h x hs hd
    rw [hne h, ← hcoast]
    unfold State.actOnDemand
    rw [hst, hs]
    cases d with
    | none => rfl
    | run y c =>
      simp only
      rw [if_neg (fun hxy => hd c (by rw [hxy]))]
  · intro h x p hs hd
    rw [hne h, ← hcoast]
    unfold State.actOnDemand
    rw [hst, hs]
    cases d with
    | none => exact State.freeSlot_freed _ i
    | run y c =>
      simp only
      rw [if_neg (fun hxy => hd c (by rw [hxy]))]
      exact State.freeSlot_freed _ i

/-- Demands written along a list, whole. -/
theorem State.forEach_writeDemand_written (d : Demand) (l : List Nat) (s : State) :
    State.DemandsWritten (l.map (fun i => (i, d))) s (forEach (fun s i => s.writeDemand i d) s l) := by
  induction l generalizing s with
  | nil => rfl
  | cons i is ih => exact ⟨s.writeDemand i d, State.writeDemand_written s i d, ih _⟩

/-- A departure from the duty set, whole (R54). -/
theorem State.removeMember_departed (u : State) (i : Nat) : u.Departed i (u.removeMember i) := by
  let v := ((u.setDuty (u.line.duty.filter (fun m => !decide (m.fan = i)))).modifyScenario
    (fun sc => { sc with membershipChanged := true })).raise .dutyChange
  have he : (u.removeMember i).events = v.events := (State.writeDemand_rest v i .none).2.1
  have hv : v = { u with
      line := { u.line with
        duty := u.line.duty.filter (fun x => decide (x.fan ≠ i))
        scenario := u.line.scenario.map (fun sc => { sc with membershipChanged := true }) }
      events := (u.removeMember i).events } := by
    rw [he]
    simp [v, State.setDuty, State.modifyScenario, State.raise]
  refine ⟨?_, by rw [he]; rfl, by rw [he]; rfl, ?_, fun k hk => ?_⟩
  · rw [← hv]
    exact State.writeDemand_written v i .none
  · rw [he]; exact EventLatch.raise_shows _ _
  · rw [he]; exact EventLatch.raise_other _ _ _ hk

/-- The report of a lost fan, whole (R69). -/
theorem State.reportLoss_taken (u : State) (i : Nat) : u.LossTaken i (u.reportLoss i) where
  work := State.FieldWork.reportLoss u i
  member hm := ⟨u.removeMember i, u.removeMember_departed i, by
    have hr : u.reportLoss i = (u.removeMember i).evaluate := if_pos hm
    rw [hr]
    exact ⟨rfl, rfl, rfl, rfl, rfl, rfl⟩⟩
  other hm := by
    have hr : u.reportLoss i = u := if_neg (by simp [hm])
    rw [hr]
    exact ⟨rfl, rfl, rfl, rfl, rfl, rfl⟩

/-- The report of an entry to a holding state, whole: taken at once, or waiting (R69, R113). -/
theorem State.sendReport_reported (u : State) (i : Nat) (waits : Bool) :
    u.Reported i waits (u.sendReport i waits) where
  taken h := by
    have hr : u.sendReport i waits = u.reportLoss i := if_neg (by rcases h with h | h <;> simp [h])
    rw [hr]
    exact u.reportLoss_taken i
  waiting hw hm := by
    have hr : u.sendReport i waits = { u with line := { u.line with reports := u.line.reports ++ [i] } } :=
      if_pos (by simp [hw, hm])
    have ha : u.awaiting i true = { u with line := { u.line with reports := u.line.reports ++ [i] } } := by
      simp [State.awaiting, hm]
    rw [hr, ha]
    exact ⟨State.FieldWork.refl _, rfl, rfl, rfl, rfl, rfl, rfl⟩

/-- Taking the oldest waiting report, whole (R69). -/
theorem State.takeReport_taken (s : State) (i : Nat) (rest : List Nat) (h : s.line.reports = i :: rest) :
    State.LossTaken { s with line := { s.line with reports := rest } } i s.takeReport := by
  unfold State.takeReport
  rw [h]
  exact State.reportLoss_taken _ i

/-- An entry to a holding state with its report, whole. -/
theorem State.enterHolding_held (s : State) (i : Nat) (dest : FanState) (cause : Option LastFault)
    (hd : dest.isHolding = true) : ∃ u, s.Held i dest cause u ∧ u.LossTaken i (s.enterHolding i dest cause) :=
  ⟨s.holdFan i dest cause, State.holdFan_held s i dest cause hd, State.reportLoss_taken _ i⟩

/-- A report that does not wait leaves the list of waiting reports as it is. -/
theorem State.awaiting_taken (u : State) (i : Nat) (waits : Bool) (h : (u.isMember i && waits) = false) :
    u.awaiting i waits = u := by
  simp [State.awaiting, h]

/-- A report that waits joins the list of waiting reports at its end. -/
theorem State.awaiting_waits (u : State) (i : Nat) (waits : Bool) (h : (u.isMember i && waits) = true) :
    u.awaiting i waits = { u with line := { u.line with reports := u.line.reports ++ [i] } } := by
  simp only [State.awaiting, h, if_true]

/-- What an entry to a holding state with its report leaves unchanged: all that the frame names, but that the report may
wait (R105, R113). -/
theorem State.FieldWork.loseFan (s : State) (i : Nat) (dest : FanState) (fault : Option LastFault) (waits : Bool) :
    State.FieldWork ((s.modifyFan i (fun f => { f with lastFault := fault.getD f.lastFault })).awaiting i waits)
      (s.loseFan i dest fault waits) := by
  have h := State.FieldWork.holdFan s i dest fault
  have hm : (s.holdFan i dest fault).isMember i = s.isMember i :=
    State.isMember_congr (by rw [State.holdFan_line]) i
  unfold State.loseFan State.sendReport
  rw [hm]
  cases hw : s.isMember i && waits
  · rw [State.awaiting_taken (s.modifyFan i _) i waits hw, if_neg Bool.false_ne_true]
    exact h.trans (State.FieldWork.reportLoss _ i)
  · rw [State.awaiting_waits (s.modifyFan i _) i waits hw, if_pos rfl]
    exact { h with reports := congrArg (· ++ [i]) h.reports }

/-- An entry to a holding state in which a member may be lost, its report waiting or not, whole. -/
theorem State.loseFan_held (s : State) (i : Nat) (dest : FanState) (cause : Option LastFault) (waits : Bool)
    (hd : dest.isHolding = true) :
    ∃ u, s.Held i dest cause u ∧ u.Reported i waits (s.loseFan i dest cause waits) :=
  ⟨s.holdFan i dest cause, State.holdFan_held s i dest cause hd, State.sendReport_reported _ i waits⟩

/-- The placing of a fan, whole (R109). -/
theorem State.placeFan_placed (s : State) (i : Nat) (hi : i < s.fanCount) : s.Placed i (s.placeFan i) := by
  have hidle : s.toIdle i = match (s.fan i).demand with
      | .run d c => s.enterQueued i d c
      | .none => s.modifyFan i (fun f => { f with state := .idle }) := by
    have hd : ((s.modifyFan i (fun f => { f with state := .idle })).fan i).demand = (s.fan i).demand := by
      rw [State.fan_modifyFan_self s i _ hi]
    unfold State.toIdle State.enterQueued
    dsimp only
    rw [hd]
    cases (s.fan i).demand with
    | none => rfl
    | run d c => simp only [State.modifyFan_modifyFan]
  have htrip : (s.fan i).iso = false → (s.fan i).lockout = false → s.onDeadFeeder i = false → (s.fan i).trip = true →
      ∃ u, s.Held i (if (s.fan i).restartUsed then .failed else .tripped) (some .trip) u ∧
        u.LossTaken i (s.placeFan i) := by
    intro h1 h2 h3 h4
    have hp : s.placeFan i = s.tripFan i .trip false := by
      unfold State.placeFan
      rw [if_neg (by simp [h1, h2]), if_neg (by simp [h3]), if_pos h4]
    rw [hp, State.tripFan, State.loseFan_false]
    exact State.enterHolding_held s i _ (some .trip) (by split <;> rfl)
  unfold State.placeFan State.coastExpired at *
  constructor
  · intro h
    rw [if_pos (by simpa using h)]
    exact State.enterHolding_held s i .isolated none rfl
  · intro h1 h2 h3
    rw [if_neg (by simp [h1, h2]), if_pos h3]
    exact State.enterHolding_held s i .unpowered none rfl
  · intro h1 h2 h3 h4
    exact htrip h1 h2 h3 h4
  · intro h1 h2 h3 h4 h5
    rw [if_neg (by simp [h1, h2]), if_neg (by simp [h3]), if_neg (by simp [h4]), if_neg (by simpa using h5)]
  · intro h1 h2 h3 h4 h5 h6
    rw [if_neg (by simp [h1, h2]), if_neg (by simp [h3]), if_neg (by simp [h4]), if_pos (by simpa using h5), hidle, h6]
  · intro h1 h2 h3 h4 h5 d c h6
    rw [if_neg (by simp [h1, h2]), if_neg (by simp [h3]), if_neg (by simp [h4]), if_pos (by simpa using h5), hidle, h6]
    exact State.enterQueued_joined s i d c

end Sys2Proof.Machine
end

