-- ==== Sys2Proof/Laws/Line.lean ====
section
/-! SUPPORT. The frame `State.LineWork` of the line controller's operations, the end of an operation (`State.settle`), what
taking a request does to the link around the request's own work, and what an owner's report makes of the event latch. -/

namespace Sys2Proof.Machine

/-! ### The frame of the line controller -/

theorem State.LineWork.refl (s : State) : State.LineWork s s :=
  ⟨rfl, rfl, rfl, rfl, rfl, rfl, rfl, rfl, rfl, rfl, rfl, fun _ h => h, rfl, fun _ => ⟨rfl, rfl, rfl, rfl, rfl⟩, rfl⟩

theorem State.LineWork.trans {s t u : State} (a : State.LineWork s t) (b : State.LineWork t u) : State.LineWork s u where
  pending := b.pending.trans a.pending
  image := b.image.trans a.image
  inputs := b.inputs.trans a.inputs
  loader := b.loader.trans a.loader
  free := b.free.trans a.free
  counting := b.counting.trans a.counting
  channels := b.channels.trans a.channels
  windowTimer := b.windowTimer.trans a.windowTimer
  link := b.link.trans a.link
  mask := b.mask.trans a.mask
  levels := b.levels.trans a.levels
  grows := fun n h => b.grows n (a.grows n h)
  fanCount := b.fanCount.trans a.fanCount
  history := fun i => by
    obtain ⟨a1, a2, a3, a4, a5⟩ := a.history i
    obtain ⟨b1, b2, b3, b4, b5⟩ := b.history i
    exact ⟨b1.trans a1, b2.trans a2, b3.trans a3, b4.trans a4, b5.trans a5⟩
  feeders := b.feeders.trans a.feeders

/-- The work of the fans and the duty set is work of the line controller. -/
theorem State.FieldWork.toLineWork {s t : State} (h : State.FieldWork s t) : State.LineWork s t where
  pending := h.pending
  image := h.image
  inputs := h.inputs
  loader := h.loader
  free := h.free
  counting := h.counting
  channels := by rw [h.air]
  windowTimer := by rw [h.air]
  link := h.link
  mask := h.mask
  levels := by
    have := h.levels
    simp only [Levels.mk.injEq] at this ⊢
    exact ⟨trivial, trivial, this.2.2.1, this.2.2.2.1, this.2.2.2.2⟩
  grows := h.grows
  fanCount := h.fanCount
  history := fun i => by
    obtain ⟨-, h2, h3, -, -, h6, h7, h8⟩ := h.history i
    exact ⟨h2, h3, h6, h7, h8⟩
  feeders := h.feeders

/-! ### The end of an operation -/

@[simp] theorem State.settle_set (s : State) : s.settle.events.set = s.events.set := rfl

@[simp] theorem State.settle_mask (s : State) : s.settle.events.mask = s.events.mask := rfl

@[simp] theorem State.settle_levels (s : State) : s.settle.events.levels = s.events.levels := rfl

@[simp] theorem State.settle_ask (s : State) : s.settle.events.ask = false := rfl

/-- With nothing asked the end of an operation changes nothing. -/
theorem State.settle_of_no_ask (s : State) (h : s.events.ask = false) : s.settle = s := by
  obtain ⟨pending, image, line, fans, feeders, inputs, air, link, loader, events, free⟩ := s
  obtain ⟨set, mask, levels, ask⟩ := events
  simp only at h
  subst h
  rfl

/-- The end of an operation leaves the transmit queue, or puts one ATTENTION behind it (R166). -/
theorem State.settle_sends (s : State) : s.settle.Sends s.link.tx := by
  unfold State.Sends State.settle
  simp only
  split
  · exact .inr rfl
  · exact .inl rfl

@[simp] theorem State.settle_core (s : State) : s.settle.link.core = s.link.core := by
  unfold State.settle ControlLink.core
  simp only
  split <;> rfl

/-- The end of an operation is work of the frame. -/
theorem State.FieldWork.settle (s : State) : State.FieldWork s s.settle :=
  { State.FieldWork.refl s with
    link := by simp
    levels := rfl
    grows := fun _ h => h }

/-! ### Taking a request -/

/-- A request with room in the transmit queue, and within the length a frame may have, is taken (R163, R164). -/
theorem receiveRequest_taken (n : Nat) (serve : State → Served) (s : State) (hn : n ≤ 255) (hs : s.CanTake) :
    receiveRequest n serve s = (appendReply (serve { s with link := s.link.goodFrame })).settle := by
  have h1 : ¬ Config.maxRequestLen < n + 1 := by simp [Config.maxRequestLen]; omega
  have h2 : { s with link := s.link.goodFrame }.link.tx.length < Config.txCapacity := hs.1
  simp only [receiveRequest, h1, if_false, receiveFrame, h2, if_true]

theorem Watchdog.frame_eq (w : Watchdog) : w.frame = if w = .stopped then .stopped else .counting 0 := by
  cases w <;> rfl

/-- A request whose work changes nothing: only its frame is counted and its reply queued (R163, R164). -/
theorem receiveRequest_unchanged (n : Nat) (serve : State → Served) (s : State) (r : Reply) (hn : n ≤ 255)
    (hs : s.CanTake) (h : serve { s with link := s.link.goodFrame } = ({ s with link := s.link.goodFrame }, r)) :
    receiveRequest n serve s = s.replied r := by
  rw [receiveRequest_taken n serve s hn hs, h,
    State.settle_of_no_ask (appendReply ({ s with link := s.link.goodFrame }, r)) hs.2]
  simp [appendReply, State.replied, ControlLink.append, ControlLink.goodFrame, Watchdog.frame_eq]

/-- A request that meets a full transmit queue is discarded whatever it asks (R163). -/
theorem receiveRequest_full (n : Nat) (serve : State → Served) (s : State) (hn : n ≤ 255) (hs : 8 ≤ s.link.tx.length) :
    receiveRequest n serve s = ({ s with link := s.link.goodFrame }.discardFrame).settle := by
  have h1 : ¬ Config.maxRequestLen < n + 1 := by simp [Config.maxRequestLen]; omega
  have h2 : ¬ { s with link := s.link.goodFrame }.link.tx.length < Config.txCapacity := by
    show ¬ s.link.tx.length < 8
    omega
  simp only [receiveRequest, h1, if_false, receiveFrame, h2]

/-! ### The link fallback and the control-period counter -/

/-- The link fallback changes nothing, or, in NORMAL under STOP_ALL, stops every fan (R19, R20). -/
theorem State.linkFallback_cases (s : State) : s.linkFallback = s ∨
    s.line.mode = .normal ∧ (∃ t, s.tunnel? = some t ∧ t.fallback = .stopAll) ∧ s.linkFallback = s.stopEveryFan := by
  unfold State.linkFallback
  split
  · rename_i t hm ht
    cases hf : t.fallback
    · exact .inl rfl
    · exact .inr ⟨hm, ⟨t, ht, hf⟩, rfl⟩
  · exact .inl rfl

theorem State.FieldWork.linkFallback (s : State) : State.FieldWork s s.linkFallback := by
  rcases State.linkFallback_cases s with h | ⟨-, -, h⟩ <;> rw [h]
  · exact State.FieldWork.refl s
  · exact State.FieldWork.stopEveryFan s

/-- The count of a window end touches the counter and the boundary alone (R75). -/
theorem State.countWindowEnd_rest (s : State) :
    s.countWindowEnd = { s with line := { s.line with
      windowCount := s.countWindowEnd.line.windowCount, boundaryDue := s.countWindowEnd.line.boundaryDue } } := by
  unfold State.countWindowEnd
  split
  · split <;> rfl
  · rfl

/-! ### The operations on the scenario -/

theorem State.LineWork.publishVm (s : State) : State.LineWork s s.publishVm := by
  refine { State.LineWork.refl s with mask := ?_, levels := ?_, grows := ?_ }
  · show (s.events.reportFeedbackLost _).mask = _
    unfold EventLatch.reportFeedbackLost; split <;> rfl
  · show { (s.events.reportFeedbackLost _).levels with shortfall := false, feedbackLost := false } = _
    unfold EventLatch.reportFeedbackLost; split <;> rfl
  · intro n h
    show (s.events.reportFeedbackLost _).set.getLsbD n = true
    unfold EventLatch.reportFeedbackLost
    split <;> simp [h]

theorem State.LineWork.modifyScenario (s : State) (f : Scenario → Scenario) : State.LineWork s (s.modifyScenario f) :=
  { State.LineWork.refl s with }

theorem State.LineWork.resolvePlan (s : State) : State.LineWork s s.resolvePlan := by
  unfold State.resolvePlan
  split
  · exact State.LineWork.refl s
  · exact State.LineWork.modifyScenario s _

theorem State.LineWork.raise (s : State) (k : EventKind) : State.LineWork s (s.raise k) :=
  (State.FieldWork.raise s k).toLineWork

theorem State.LineWork.withScenario (s : State) (f : State → Scenario → State)
    (h : ∀ sc, State.LineWork s (f s sc)) : State.LineWork s (s.withScenario f) := by
  unfold State.withScenario
  split
  · exact h _
  · exact State.LineWork.refl s

theorem State.LineWork.forEach {op : State → Nat → State} (h : ∀ s i, State.LineWork s (op s i)) (s : State)
    (l : List Nat) : State.LineWork s (Machine.forEach op s l) :=
  forEach_rel State.LineWork.refl (fun _ _ _ => State.LineWork.trans) h s l

theorem State.LineWork.joinInitial (s : State) (sc : Scenario) : State.LineWork s (s.joinInitial sc) := by
  refine State.LineWork.forEach (fun t i => ?_) s _
  split
  · exact (State.FieldWork.joinMember ..).toLineWork
  · exact State.LineWork.refl t

theorem State.LineWork.modifyFan (s : State) (i : Nat) (f : Fan → Fan)
    (h : ∀ g : Fan, (f g).lockout = g.lockout ∧ (f g).lastFault = g.lastFault ∧ (f g).fb = g.fb ∧ (f g).trip = g.trip
      ∧ (f g).iso = g.iso) : State.LineWork s (s.modifyFan i f) :=
  { State.LineWork.refl s with
    fanCount := by simp
    history := fun j => State.fan_modifyFan_prop
      (P := fun a b => b.lockout = a.lockout ∧ b.lastFault = a.lastFault ∧ b.fb = a.fb ∧ b.trip = a.trip ∧ b.iso = a.iso)
      s i f (fun _ => ⟨rfl, rfl, rfl, rfl, rfl⟩) h j }

theorem State.LineWork.examineRestart (s : State) (i : Nat) : State.LineWork s (s.examineRestart i) := by
  unfold State.examineRestart
  split
  · rename_i h
    refine (State.LineWork.modifyFan s i (fun f => { f with restartUsed := true })
      fun _ => ⟨rfl, rfl, rfl, rfl, rfl⟩).trans
      (State.FieldWork.placeFan (s.modifyFan i (fun f => { f with restartUsed := true })) i ?_).toLineWork
    rcases Nat.lt_or_ge i s.fanCount with hlt | hge
    · rw [State.fan_modifyFan_self s i _ hlt]; exact h.2.2.2.1
    · rw [State.modifyFan_none s i _ hge]; exact h.2.2.2.1
  · exact State.LineWork.refl s

theorem State.LineWork.update (s : State) (n : Nat) (k : FireClass) (req : FireRequest) (d : Direction) :
    State.LineWork s (s.update n k req d) := by
  unfold State.update State.replaceFire
  simp only
  refine State.LineWork.trans ?_ (State.FieldWork.evaluate _).toLineWork
  refine State.LineWork.trans ?_ (State.LineWork.modifyScenario _ _)
  refine State.LineWork.trans ?_ (State.LineWork.withScenario _ _ fun sc =>
    (State.FieldWork.forEach State.FieldWork.removeMember _ _).toLineWork)
  refine State.LineWork.trans ?_ (State.LineWork.resolvePlan _)
  exact (State.LineWork.modifyScenario s _).trans (State.LineWork.publishVm _)

theorem State.LineWork.redirect (s : State) (n : Nat) (k : FireClass) (req : FireRequest) (d : Direction) :
    State.LineWork s (s.redirect n k req d) := by
  unfold State.redirect State.replaceFire
  simp only
  refine State.LineWork.trans ?_ (State.FieldWork.evaluate _).toLineWork
  refine State.LineWork.trans ?_ (State.LineWork.withScenario _ _ fun sc => State.LineWork.joinInitial _ sc)
  refine State.LineWork.trans ?_ (State.LineWork.modifyScenario _ _)
  refine State.LineWork.trans ?_ (State.FieldWork.forEach State.FieldWork.removeMember _ _).toLineWork
  refine State.LineWork.trans ?_ (State.LineWork.resolvePlan _)
  exact (State.LineWork.modifyScenario s _).trans (State.LineWork.publishVm _)

/-! ### The bits that an owner's report sets (R174) -/

/-- What latching one kind adds to the bit of another. -/
theorem EventLatch.latch_bit (e : EventLatch) (k k' : EventKind) : (e.latch k.flag).set.getLsbD k'.bit =
    (e.set.getLsbD k'.bit || (e.mask.getLsbD k'.bit && decide (k' = k))) := by
  have : k.flag.getLsbD k'.bit = decide (k' = k) := by cases k <;> cases k' <;> decide
  simp only [EventLatch.latch, BitVec.getLsbD_or, BitVec.getLsbD_and, this]
  cases e.mask.getLsbD k'.bit <;> cases decide (k' = k) <;> rfl

/-- What the FEEDER_HOLD report adds to the bits of the set, and what it leaves of the latch. -/
theorem EventLatch.reportFeederHold_taken (e : EventLatch) (b : Bool) :
    (e.reportFeederHold b).mask = e.mask ∧ (e.reportFeederHold b).levels = { e.levels with feederHold := b } ∧
    ∀ k : EventKind, (e.reportFeederHold b).set.getLsbD k.bit =
      (e.set.getLsbD k.bit || (e.mask.getLsbD k.bit && decide (k = .feederHold) && (b && !e.levels.feederHold))) := by
  unfold EventLatch.reportFeederHold
  dsimp only
  cases b && !e.levels.feederHold
  · exact ⟨rfl, rfl, fun k => by simp⟩
  · exact ⟨rfl, rfl, fun k => by rw [if_pos rfl, EventLatch.latch_bit]; simp⟩

/-- The same of FEEDER_DEAD. -/
theorem EventLatch.reportFeederDead_taken (e : EventLatch) (b : Bool) :
    (e.reportFeederDead b).mask = e.mask ∧ (e.reportFeederDead b).levels = { e.levels with feederDead := b } ∧
    ∀ k : EventKind, (e.reportFeederDead b).set.getLsbD k.bit =
      (e.set.getLsbD k.bit || (e.mask.getLsbD k.bit && decide (k = .feederDead) && (b && !e.levels.feederDead))) := by
  unfold EventLatch.reportFeederDead
  dsimp only
  cases b && !e.levels.feederDead
  · exact ⟨rfl, rfl, fun k => by simp⟩
  · exact ⟨rfl, rfl, fun k => by rw [if_pos rfl, EventLatch.latch_bit]; simp⟩

/-- The same of FEEDBACK_LOST. -/
theorem EventLatch.reportFeedbackLost_taken (e : EventLatch) (b : Bool) :
    (e.reportFeedbackLost b).mask = e.mask ∧ (e.reportFeedbackLost b).levels = { e.levels with feedbackLost := b } ∧
    ∀ k : EventKind, (e.reportFeedbackLost b).set.getLsbD k.bit =
      (e.set.getLsbD k.bit || (e.mask.getLsbD k.bit && decide (k = .feedbackLost) && (b && !e.levels.feedbackLost))) := by
  unfold EventLatch.reportFeedbackLost
  dsimp only
  cases b && !e.levels.feedbackLost
  · exact ⟨rfl, rfl, fun k => by simp⟩
  · exact ⟨rfl, rfl, fun k => by rw [if_pos rfl, EventLatch.latch_bit]; simp⟩

/-- Taking the two feeder conditions afresh, whole (R136). -/
theorem State.refreshFeederLevels_taken (s : State) : s.events.FeederLevels s.feeders s.refreshFeederLevels.events := by
  have hh : (s.feeders.any fun f => decide (f.state = .hold) || decide (f.state = .settling)) =
      s.feeders.any fun g => decide (g.state = .hold ∨ g.state = .settling) :=
    congrArg (fun p => s.feeders.any p) (funext fun f => by rw [Bool.decide_or])
  unfold State.refreshFeederLevels
  dsimp only
  rw [hh]
  obtain ⟨hm, hl, hb⟩ := s.events.reportFeederHold_taken (s.feeders.any fun g =>
    decide (g.state = .hold ∨ g.state = .settling))
  obtain ⟨dm, dl, db⟩ := (s.events.reportFeederHold (s.feeders.any fun g =>
    decide (g.state = .hold ∨ g.state = .settling))).reportFeederDead_taken
      (s.feeders.any fun f => decide (f.state = .dead))
  constructor
  · rw [dm, hm]
  · rw [dl, hl]
  · rw [dl, db, hb, hl]; simp [Bool.and_comm, Bool.and_left_comm, Bool.and_assoc]
  · rw [dl, db, hb, hl, hm]; simp [Bool.and_comm, Bool.and_left_comm, Bool.and_assoc]
  · intro k h1 h2; rw [db, hb]; simp [h1, h2]

/-- Forming vm in FIRE, with nobody moved, in the event latch (R88, R153). -/
theorem State.publishVm_formed (s : State) (h : s.line.mode = .fire) :
    s.events.Formed s.publishVm.air.vm.isNone false s.publishVm.events := by
  unfold State.publishVm State.refreshFeedbackLost
  simp only [h, decide_true, Bool.true_and]
  obtain ⟨m, l, b⟩ := s.events.reportFeedbackLost_taken s.formVm.isNone
  constructor
  · exact m
  · exact l
  · rw [b]; simp [Bool.and_comm, Bool.and_left_comm, Bool.and_assoc]
  · rw [b]; simp
  · intro k h1 h2; rw [b]; simp [h1]
end Sys2Proof.Machine
end

