-- ==== Sys2Proof/Laws/PerInstr.lean ====
section
/-! SUPPORT. The family FrameFits: a well-formed command that is a frame has one that the link can carry, LEN within
1..256 (R159, R160), and that frame's type and payload name the command again (R164, the table of spec/09 section 9.6);
FRAME_DISCARDED is the fate of a frame of any type. One lemma for each constructor. -/

namespace Sys2Proof.Laws

/-- The statement of the family, for one command. -/
def FrameFits.Statement (i : Instr) : Prop :=
  i.wellFormed = true → ∀ type payload, i.frame? = some (type, payload) →
    payload.length + 1 ≤ Config.maxRequestLen
      ∧ (requestOf type payload = i ∨ i = .frameDiscarded type payload)

theorem FrameFits.fullReset : FrameFits.Statement (.fullReset) := by
  intro _ _ _ h
  simp [Instr.frame?] at h

theorem FrameFits.loadEnd (memory : List Byte) (dir : BitVec 16) (health : BitVec 16) :
    FrameFits.Statement (.loadEnd memory dir health) := by
  intro _ _ _ h
  simp [Instr.frame?] at h

theorem FrameFits.reloadPulse : FrameFits.Statement (.reloadPulse) := by
  intro _ _ _ h
  simp [Instr.frame?] at h

theorem FrameFits.identify (payload : List Byte) : FrameFits.Statement (.identify payload) := by
  intro hw t p h
  have hl : payload.length ≤ maxPayload := by simpa [Instr.wellFormed] using hw
  obtain ⟨rfl, rfl⟩ : t = _ ∧ p = payload := by simpa [Instr.frame?, eq_comm] using h
  exact ⟨by simp only [maxPayload, Config.maxRequestLen] at *; omega, .inl rfl⟩

theorem FrameFits.getStatus (payload : List Byte) : FrameFits.Statement (.getStatus payload) := by
  intro hw t p h
  have hl : payload.length ≤ maxPayload := by simpa [Instr.wellFormed] using hw
  obtain ⟨rfl, rfl⟩ : t = _ ∧ p = payload := by simpa [Instr.frame?, eq_comm] using h
  exact ⟨by simp only [maxPayload, Config.maxRequestLen] at *; omega, .inl rfl⟩

theorem FrameFits.getFan (payload : List Byte) : FrameFits.Statement (.getFan payload) := by
  intro hw t p h
  have hl : payload.length ≤ maxPayload := by simpa [Instr.wellFormed] using hw
  obtain ⟨rfl, rfl⟩ : t = _ ∧ p = payload := by simpa [Instr.frame?, eq_comm] using h
  exact ⟨by simp only [maxPayload, Config.maxRequestLen] at *; omega, .inl rfl⟩

theorem FrameFits.getFanTable (payload : List Byte) : FrameFits.Statement (.getFanTable payload) := by
  intro hw t p h
  have hl : payload.length ≤ maxPayload := by simpa [Instr.wellFormed] using hw
  obtain ⟨rfl, rfl⟩ : t = _ ∧ p = payload := by simpa [Instr.frame?, eq_comm] using h
  exact ⟨by simp only [maxPayload, Config.maxRequestLen] at *; omega, .inl rfl⟩

theorem FrameFits.getDuty (payload : List Byte) : FrameFits.Statement (.getDuty payload) := by
  intro hw t p h
  have hl : payload.length ≤ maxPayload := by simpa [Instr.wellFormed] using hw
  obtain ⟨rfl, rfl⟩ : t = _ ∧ p = payload := by simpa [Instr.frame?, eq_comm] using h
  exact ⟨by simp only [maxPayload, Config.maxRequestLen] at *; omega, .inl rfl⟩

theorem FrameFits.getQueue (payload : List Byte) : FrameFits.Statement (.getQueue payload) := by
  intro hw t p h
  have hl : payload.length ≤ maxPayload := by simpa [Instr.wellFormed] using hw
  obtain ⟨rfl, rfl⟩ : t = _ ∧ p = payload := by simpa [Instr.frame?, eq_comm] using h
  exact ⟨by simp only [maxPayload, Config.maxRequestLen] at *; omega, .inl rfl⟩

theorem FrameFits.getAirflow (payload : List Byte) : FrameFits.Statement (.getAirflow payload) := by
  intro hw t p h
  have hl : payload.length ≤ maxPayload := by simpa [Instr.wellFormed] using hw
  obtain ⟨rfl, rfl⟩ : t = _ ∧ p = payload := by simpa [Instr.frame?, eq_comm] using h
  exact ⟨by simp only [maxPayload, Config.maxRequestLen] at *; omega, .inl rfl⟩

theorem FrameFits.readEvents (payload : List Byte) : FrameFits.Statement (.readEvents payload) := by
  intro hw t p h
  have hl : payload.length ≤ maxPayload := by simpa [Instr.wellFormed] using hw
  obtain ⟨rfl, rfl⟩ : t = _ ∧ p = payload := by simpa [Instr.frame?, eq_comm] using h
  exact ⟨by simp only [maxPayload, Config.maxRequestLen] at *; omega, .inl rfl⟩

theorem FrameFits.setEventMask (payload : List Byte) : FrameFits.Statement (.setEventMask payload) := by
  intro hw t p h
  have hl : payload.length ≤ maxPayload := by simpa [Instr.wellFormed] using hw
  obtain ⟨rfl, rfl⟩ : t = _ ∧ p = payload := by simpa [Instr.frame?, eq_comm] using h
  exact ⟨by simp only [maxPayload, Config.maxRequestLen] at *; omega, .inl rfl⟩

theorem FrameFits.activateFire (payload : List Byte) : FrameFits.Statement (.activateFire payload) := by
  intro hw t p h
  have hl : payload.length ≤ maxPayload := by simpa [Instr.wellFormed] using hw
  obtain ⟨rfl, rfl⟩ : t = _ ∧ p = payload := by simpa [Instr.frame?, eq_comm] using h
  exact ⟨by simp only [maxPayload, Config.maxRequestLen] at *; omega, .inl rfl⟩

theorem FrameFits.setTarget (payload : List Byte) : FrameFits.Statement (.setTarget payload) := by
  intro hw t p h
  have hl : payload.length ≤ maxPayload := by simpa [Instr.wellFormed] using hw
  obtain ⟨rfl, rfl⟩ : t = _ ∧ p = payload := by simpa [Instr.frame?, eq_comm] using h
  exact ⟨by simp only [maxPayload, Config.maxRequestLen] at *; omega, .inl rfl⟩

theorem FrameFits.fullThrust (payload : List Byte) : FrameFits.Statement (.fullThrust payload) := by
  intro hw t p h
  have hl : payload.length ≤ maxPayload := by simpa [Instr.wellFormed] using hw
  obtain ⟨rfl, rfl⟩ : t = _ ∧ p = payload := by simpa [Instr.frame?, eq_comm] using h
  exact ⟨by simp only [maxPayload, Config.maxRequestLen] at *; omega, .inl rfl⟩

theorem FrameFits.standDown (payload : List Byte) : FrameFits.Statement (.standDown payload) := by
  intro hw t p h
  have hl : payload.length ≤ maxPayload := by simpa [Instr.wellFormed] using hw
  obtain ⟨rfl, rfl⟩ : t = _ ∧ p = payload := by simpa [Instr.frame?, eq_comm] using h
  exact ⟨by simp only [maxPayload, Config.maxRequestLen] at *; omega, .inl rfl⟩

theorem FrameFits.fanCommand (payload : List Byte) : FrameFits.Statement (.fanCommand payload) := by
  intro hw t p h
  have hl : payload.length ≤ maxPayload := by simpa [Instr.wellFormed] using hw
  obtain ⟨rfl, rfl⟩ : t = _ ∧ p = payload := by simpa [Instr.frame?, eq_comm] using h
  exact ⟨by simp only [maxPayload, Config.maxRequestLen] at *; omega, .inl rfl⟩

theorem FrameFits.lockout (payload : List Byte) : FrameFits.Statement (.lockout payload) := by
  intro hw t p h
  have hl : payload.length ≤ maxPayload := by simpa [Instr.wellFormed] using hw
  obtain ⟨rfl, rfl⟩ : t = _ ∧ p = payload := by simpa [Instr.frame?, eq_comm] using h
  exact ⟨by simp only [maxPayload, Config.maxRequestLen] at *; omega, .inl rfl⟩

theorem FrameFits.restore (payload : List Byte) : FrameFits.Statement (.restore payload) := by
  intro hw t p h
  have hl : payload.length ≤ maxPayload := by simpa [Instr.wellFormed] using hw
  obtain ⟨rfl, rfl⟩ : t = _ ∧ p = payload := by simpa [Instr.frame?, eq_comm] using h
  exact ⟨by simp only [maxPayload, Config.maxRequestLen] at *; omega, .inl rfl⟩

theorem FrameFits.reloadImage (payload : List Byte) : FrameFits.Statement (.reloadImage payload) := by
  intro hw t p h
  have hl : payload.length ≤ maxPayload := by simpa [Instr.wellFormed] using hw
  obtain ⟨rfl, rfl⟩ : t = _ ∧ p = payload := by simpa [Instr.frame?, eq_comm] using h
  exact ⟨by simp only [maxPayload, Config.maxRequestLen] at *; omega, .inl rfl⟩

theorem FrameFits.unknownType (type : Byte) (payload : List Byte) :
    FrameFits.Statement (.unknownType type payload) := by
  intro hw t p h
  have hw : payload.length ≤ maxPayload ∧ type ∉ requestTypes := by simpa [Instr.wellFormed] using hw
  obtain ⟨rfl, rfl⟩ : t = type ∧ p = payload := by simpa [Instr.frame?, eq_comm] using h
  refine ⟨by simp only [maxPayload, Config.maxRequestLen] at *; omega, .inl ?_⟩
  have hn := hw.2
  simp only [requestTypes, List.mem_cons, List.not_mem_nil, or_false, not_or] at hn
  unfold requestOf
  obtain ⟨h1, h2, h3, h4, h5, h6, h7, h8, h9, h10, h11, h12, h13, h14, h15, h16, h17⟩ := hn
  rw [if_neg h1, if_neg h2, if_neg h3, if_neg h4, if_neg h5, if_neg h6, if_neg h7, if_neg h8, if_neg h9, if_neg h10,
    if_neg h11, if_neg h12, if_neg h13, if_neg h14, if_neg h15, if_neg h16, if_neg h17]

theorem FrameFits.frameDiscarded (type : Byte) (payload : List Byte) :
    FrameFits.Statement (.frameDiscarded type payload) := by
  intro hw t p h
  have hl : payload.length ≤ maxPayload := by simpa [Instr.wellFormed] using hw
  obtain ⟨rfl, rfl⟩ : t = type ∧ p = payload := by simpa [Instr.frame?, eq_comm] using h
  exact ⟨by simp only [maxPayload, Config.maxRequestLen] at *; omega, .inr rfl⟩

theorem FrameFits.frameDropped (cause : DropCause) : FrameFits.Statement (.frameDropped cause) := by
  intro _ _ _ h
  simp [Instr.frame?] at h

theorem FrameFits.frameGapTimeout : FrameFits.Statement (.frameGapTimeout) := by
  intro _ _ _ h
  simp [Instr.frame?] at h

theorem FrameFits.frameSent : FrameFits.Statement (.frameSent) := by
  intro _ _ _ h
  simp [Instr.frame?] at h

theorem FrameFits.linkTimeout : FrameFits.Statement (.linkTimeout) := by
  intro _ _ _ h
  simp [Instr.frame?] at h

theorem FrameFits.windowEnd (health : BitVec 16) : FrameFits.Statement (.windowEnd health) := by
  intro _ _ _ h
  simp [Instr.frame?] at h

theorem FrameFits.controlPeriodBoundary : FrameFits.Statement (.controlPeriodBoundary) := by
  intro _ _ _ h
  simp [Instr.frame?] at h

theorem FrameFits.pulse (channel : Fin 16) (inLimits : Bool) : FrameFits.Statement (.pulse channel inLimits) := by
  intro _ _ _ h
  simp [Instr.frame?] at h

theorem FrameFits.anemometerDirChange (channel : Fin 16) : FrameFits.Statement (.anemometerDirChange channel) := by
  intro _ _ _ h
  simp [Instr.frame?] at h

theorem FrameFits.healthLost (channel : Fin 16) : FrameFits.Statement (.healthLost channel) := by
  intro _ _ _ h
  simp [Instr.frame?] at h

theorem FrameFits.fbActive (fan : Fin 64) : FrameFits.Statement (.fbActive fan) := by
  intro _ _ _ h
  simp [Instr.frame?] at h

theorem FrameFits.fbInactive (fan : Fin 64) : FrameFits.Statement (.fbInactive fan) := by
  intro _ _ _ h
  simp [Instr.frame?] at h

theorem FrameFits.tripActive (fan : Fin 64) : FrameFits.Statement (.tripActive fan) := by
  intro _ _ _ h
  simp [Instr.frame?] at h

theorem FrameFits.tripInactive (fan : Fin 64) : FrameFits.Statement (.tripInactive fan) := by
  intro _ _ _ h
  simp [Instr.frame?] at h

theorem FrameFits.isoActive (fan : Fin 64) : FrameFits.Statement (.isoActive fan) := by
  intro _ _ _ h
  simp [Instr.frame?] at h

theorem FrameFits.isoInactive (fan : Fin 64) : FrameFits.Statement (.isoInactive fan) := by
  intro _ _ _ h
  simp [Instr.frame?] at h

theorem FrameFits.rampTimerExpiry (fan : Fin 64) : FrameFits.Statement (.rampTimerExpiry fan) := by
  intro _ _ _ h
  simp [Instr.frame?] at h

theorem FrameFits.confirmTimerExpiry (fan : Fin 64) : FrameFits.Statement (.confirmTimerExpiry fan) := by
  intro _ _ _ h
  simp [Instr.frame?] at h

theorem FrameFits.coastTimerExpiry (fan : Fin 64) : FrameFits.Statement (.coastTimerExpiry fan) := by
  intro _ _ _ h
  simp [Instr.frame?] at h

theorem FrameFits.stuckRunningTimerExpiry (fan : Fin 64) : FrameFits.Statement (.stuckRunningTimerExpiry fan) := by
  intro _ _ _ h
  simp [Instr.frame?] at h

theorem FrameFits.availInactive (feeder : Fin 4) : FrameFits.Statement (.availInactive feeder) := by
  intro _ _ _ h
  simp [Instr.frame?] at h

theorem FrameFits.availActive (feeder : Fin 4) : FrameFits.Statement (.availActive feeder) := by
  intro _ _ _ h
  simp [Instr.frame?] at h

theorem FrameFits.vlowActive (feeder : Fin 4) : FrameFits.Statement (.vlowActive feeder) := by
  intro _ _ _ h
  simp [Instr.frame?] at h

theorem FrameFits.vlowInactive (feeder : Fin 4) : FrameFits.Statement (.vlowInactive feeder) := by
  intro _ _ _ h
  simp [Instr.frame?] at h

theorem FrameFits.settleTimerExpiry (feeder : Fin 4) : FrameFits.Statement (.settleTimerExpiry feeder) := by
  intro _ _ _ h
  simp [Instr.frame?] at h

theorem FrameFits.byteReceived (byte : Byte) (stopBit : Bool) : FrameFits.Statement (.byteReceived byte stopBit) := by
  intro _ _ _ h
  simp [Instr.frame?] at h

end Sys2Proof.Laws
end

