-- ==== Sys2Proof/Tests/Slice0.lean ====
section
/-! SUPPORT. Our own tests: ill-formed commands, small cases whose figures are those of spec/, and for every statement for
the provers that has hypotheses a state and operands that meet them. -/

namespace Sys2Proof.Tests

open Sys2Proof Sys2Proof.Machine

/-! ### Small states -/

/-- The tunnel of spec/02 section 2.4, at 4 km, with W = 2, M = 15, a feedback allowance of 3 s and STOP_ALL. -/
def tunnel : Tunnel :=
  { length := 4000, crossSection := 650, baseLoss := 1250, trainLoss := 150, density := 1200, jetVelocity := 330,
    windAllowance := 20, smokeDerating := 80, redundancy := 1, trimBand := 30, windowSeconds := 2,
    windowsPerPeriod := 15, debounceMs := 100, feedbackAllowance := 3, linkTimeout := 120, fallback := .stopAll }

/-- The fan of spec/02 section 2.4 at a chainage, on feeder 0. -/
def fanAt (x : Nat) : FanStatic :=
  { chainage := x, feeder := 0, ratedThrust := 1500, installation := 85, primary := .forward, reverseRatio := 90,
    startTime := 10, coastTime := 60, heatRating := 30 }

/-- A fire class. -/
def fireClass : FireClass := { target := 300, firePressure := 30, radiusUp := 100, radiusDown := 500 }

/-- An image with four fans on one feeder with one start slot, and one channel. -/
def image : LineImage :=
  { identifier := 7#32, crc := 9#16, tunnel := tunnel, classes := [fireClass, fireClass, fireClass, fireClass],
    feeders := [{ slots := 1, settleTime := 20 }], fans := [fanAt 200, fanAt 1400, fanAt 2600, fanAt 3800],
    channels := [{ chainage := 900, scale := 100, vmax := 1500 }], plans := [] }

/-- A fan in IDLE. -/
def idle : Fan := { Fan.afterReset with state := .idle, coastTimer := 60 }

/-- A fan in RUNNING. -/
def running (d : Direction) (c : DemandClass) : Fan :=
  { Fan.afterReset with
    state := .running d, demand := .run d c, coastTimer := 60, fb := true, run := true, dirOut := d }

/-- A fan in STARTING. -/
def starting (d : Direction) (p : StartPhase) (c : DemandClass) : Fan :=
  { Fan.afterReset with state := .starting d p, demand := .run d c, coastTimer := 60, run := true, dirOut := d }

/-- A fan in QUEUED. -/
def queued (d : Direction) (c : DemandClass) : Fan := { idle with state := .queued, demand := .run d c }

/-- A fan in a state without demand or RUN. -/
def resting (x : FanState) : Fan := { idle with state := x }

/-- A READY feeder with nothing starting. -/
def readyFeeder : Feeder := { state := .ready, settleTimer := none, startingCount := 0, urgent := [], routine := [] }

/-- The channel record of a window just begun. -/
def channel : Channel := Channel.cleared.beginWindow .forward true

/-- The line in NORMAL, with the fans and the feeder given. -/
def normal (fans : List Fan) (feeder : Feeder) : State :=
  { State.reset with
    image := some image
    line := { State.reset.line with mode := .normal, counting := true }
    fans := fans
    feeders := [feeder]
    feederInputs := List.replicate 4 { avail := true, vlow := false }
    air := { channels := [channel], vm := none, windowTimer := some 0 }
    link := { State.reset.link with watchdog := .counting 0 }
    loader := { State.reset.loader with load := .idle } }

/-- The scenario of spec/02 section 2.4 with the fire at 2400, FORWARD: the window is 2300..2900. -/
def scenario : Scenario :=
  { Scenario.blank with
    chainage := 2400, direction := .forward, trainLength := 400, target := 300, windowLow := 2300, windowHigh := 2900,
    preference := [0, 1, 3], required := 9744, shortfall := true }

/-- The line in FIRE: fan 0 RUNNING, fan 1 STARTING, fan 3 QUEUED, all three members; fan 2, excluded, in IDLE; one
command waits. -/
def fire : State :=
  { normal [running .forward .urgent, starting .forward (.ramp 1) .urgent, idle, queued .forward .urgent]
      { readyFeeder with startingCount := 1, urgent := [{ fan := 3, dir := .forward }] } with
    pending := [.fbActive 1]
    line := {
      mode := .fire, scenario := some scenario, counting := true, windowCount := 14, boundaryDue := none,
      overtaken := false, reports := [],
      duty := [
        { fan := 0, reason := .initial, counted := 1158, expired := false },
        { fan := 1, reason := .need, counted := 1158, expired := false },
        { fan := 3, reason := .need, counted := 926, expired := false }] }
    events := { State.reset.events with levels := { Levels.allFalse with shortfall := true, feedbackLost := true } } }

/-- The next state of a command. -/
def after (c : Instr) (s : State) : State :=
  match exec c s with
  | .next t => t
  | .fault f => nomatch f
  | .refused _ => s

/-! ### Ill-formed commands -/

theorem test_wellFormed_memory (dir health : BitVec 16) :
    (Instr.loadEnd (List.replicate 8192 0#8) dir health).wellFormed = true
      ∧ (Instr.loadEnd (List.replicate 8193 0#8) dir health).wellFormed = false := by
  simp only [Instr.wellFormed, configMemorySize, List.length_replicate]
  decide

theorem test_wellFormed_payload :
    (Instr.getStatus (List.replicate 255 0#8)).wellFormed = true
      ∧ (Instr.getStatus (List.replicate 256 0#8)).wellFormed = false
      ∧ (Instr.frameDiscarded 0x02 (List.replicate 256 0#8)).wellFormed = false
      ∧ (Instr.unknownType 0x7F (List.replicate 256 0#8)).wellFormed = false := by
  simp only [Instr.wellFormed, maxPayload, List.length_replicate]
  decide

theorem test_wellFormed_unknownType :
    (Instr.unknownType 0x7F []).wellFormed = true ∧ (Instr.unknownType 0x10 []).wellFormed = false := by decide

/-! ### Words -/

theorem test_tableWord (nbits w : Nat) : decodeTableWord nbits w = none := rfl

theorem test_requestOf : requestOf 0x10 [0x09, 0x60, 0x00, 0x03, 0x00, 0xC8] =
      .activateFire [0x09, 0x60, 0x00, 0x03, 0x00, 0xC8]
    ∧ requestOf 0x22 [4] = .restore [4] ∧ requestOf 0x14 [] = .unknownType 0x14 [] := by decide

/-- IDENTIFY as the master sends it: start byte, LEN 1, type 1, and a check that the link accepts (R159, R161). -/
theorem test_frame_bytes : (frameBytes 0x01 []).take 4 = [0xA5, 0x00, 0x01, 0x01]
    ∧ checkMatches ((frameBytes 0x01 []).drop 1) = true := by decide +kernel

/-! ### Figures of spec/ -/

/-- spec/02 sections 2.4 and 2.5: T_req at 300 and at 450 cm/s. -/
theorem test_required : requiredThrust tunnel 30 300 400 = 9744 ∧ requiredThrust tunnel 30 450 400 = 17861 := by
  decide +kernel

/-- spec/02 section 2.4: the counted thrust of the fan on both sides, in both directions. -/
theorem test_counted :
    countedThrust tunnel (fanAt 0) 300 .forward .cold false = 1158
      ∧ countedThrust tunnel (fanAt 0) 300 .reverse .cold false = 1042
      ∧ countedThrust tunnel (fanAt 0) 300 .forward .hot false = 926
      ∧ countedThrust tunnel (fanAt 0) 300 .forward .cold true = 0 := by decide +kernel

/-- spec/04 R62: D raised to 1, then lowered to U, so that U = 0 gives 0. -/
theorem test_dutySize :
    dutySize 1 0 (-8) 5 = 1 ∧ dutySize 9 1 0 7 = 7 ∧ dutySize 9 1 0 20 = 10 ∧ dutySize 0 0 0 0 = 0 := by
  decide

/-- spec/08 R147, R148: 620 pulses in 2 s at k = 100 are 310 cm/s; a saturated count is OVERRANGE. -/
theorem test_sample :
    ({ channel with pulseCount := 620 }.sample { chainage := 900, scale := 100, vmax := 1500 } 2) =
        { velocity := 310, quality := .good }
      ∧ ({ channel with pulseCount := 65535 }.sample { chainage := 900, scale := 1000, vmax := 3000 } 10) =
        { velocity := 655, quality := .overrange } := by decide +kernel

/-- spec/00 section 4.3: a mean is rounded toward zero on both sides. -/
theorem test_mean :
    meanTowardZero [-5, -2] = some (-3) ∧ meanTowardZero [5, 2] = some 3 ∧ meanTowardZero [] = none := by
  decide

/-! ### Commands, one step each -/

/-- R1, R120: after a full reset every fan is COASTING with its coast timer at 0. -/
theorem test_fullReset :
    (after .fullReset fire).line.mode = .loading ∧ ((after .fullReset fire).fan 63).state = .coasting
    ∧ (after .fullReset fire).fanCount = 64 := by decide +kernel

/-- R164: IDENTIFY is taken without an image and answers its absence (R167). -/
theorem test_identify_reset : (after (.identify []) State.reset).link.tx = [.ident none] := by decide +kernel

/-- R164: without an image GET_DUTY is refused NO_IMAGE even with a wrong length. -/
theorem test_getDuty_noImage : (after (.getDuty [1]) State.reset).link.tx = [.refuse 0x05 .noImage] := by decide +kernel

/-- R115: RUN_FWD to an IDLE fan on a READY feeder with a free slot starts it at once (R98, R134). -/
theorem test_fanCommand_starts :
    ((after (.fanCommand [0, 1]) (normal [idle, idle, idle, idle] readyFeeder)).fan 0).state = .starting .forward (.ramp 10)
      ∧ (after (.fanCommand [0, 1]) (normal [idle, idle, idle, idle] readyFeeder)).feeders.map (fun f => f.startingCount)
        = [1] := by decide +kernel

/-- R134: with the one slot taken the next fan waits in QUEUED. -/
theorem test_fanCommand_waits :
    ((after (.fanCommand [1, 2]) (normal [starting .forward (.ramp 5) .routine, idle, idle, idle]
      { readyFeeder with startingCount := 1 })).fan 1).state = .queued := by decide +kernel

/-- R115: a stop turns RUN off into COASTING with the coast timer at 0 (R96, R103). -/
theorem test_fanCommand_stops :
    let t := after (.fanCommand [0, 0]) (normal [running .forward .routine, idle, idle, idle] readyFeeder)
    (t.fan 0).state = .coasting ∧ (t.fan 0).run = false ∧ (t.fan 0).coastTimer = 0
      ∧ (t.fan 0).stuckTimer = some 3 := by decide +kernel

/-- R115: fan 4 of four fans does not exist. -/
theorem test_fanCommand_range :
    (after (.fanCommand [4, 1]) (normal [idle, idle, idle, idle] readyFeeder)).link.tx = [.refuse 0x20 .range] := by
  decide +kernel

/-- R9, R10, R13, R39, R66: an activation at 2400 FORWARD; the window 2300..2900; fan 2 is excluded; the fan running
FORWARD joins as INITIAL, the one running REVERSE is stopped. -/
theorem test_activateFire :
    let t := after (.activateFire [0x09, 0x60, 0, 0, 0x01, 0x90])
      (normal [running .forward .routine, idle, idle, running .reverse .routine] readyFeeder)
    t.line.mode = .fire ∧ t.line.scenario.map (fun sc => (sc.windowLow, sc.windowHigh, sc.preference, sc.required))
        = some (2300, 2900, [0, 1, 3], 9744)
      ∧ t.line.duty.map (fun m => (m.fan, m.reason)) = [(0, .initial), (1, .need), (3, .need)]
      ∧ (t.fan 3).state = .coasting ∧ (t.fan 1).state = .starting .forward (.ramp 10) := by decide +kernel

/-- R80: SET_TARGET is clamped to 600 and buffered. -/
theorem test_setTarget :
    (after (.setTarget [0xFF, 0xFF]) fire).line.scenario.map (fun sc => (sc.target, sc.pendingTarget))
    = some (300, some 600) := by decide +kernel

/-- R17: STAND_DOWN stops every fan and returns to NORMAL; the QUEUED fan becomes IDLE and is not started (R19, R132).
-/
theorem test_standDown : (after (.standDown []) fire).line.mode = .normal
    ∧ (after (.standDown []) fire).fans.map (fun f => (f.state, f.run)) =
      [(.coasting, false), (.coasting, false), (.idle, false), (.idle, false)] := by
  decide +kernel

/-- R89: a stand-down taken between the M-th window end and its boundary counts that window end as its first. -/
theorem test_standDown_overtakes :
    let t := after .controlPeriodBoundary (after (.standDown []) (after (.windowEnd 0xFFFF) fire))
    t.line.windowCount = 1 ∧ t.line.boundaryDue = none ∧ t.line.overtaken = false := by decide +kernel

/-- TRIP_ACTIVE of fan `i`, ISO_ACTIVE, FB_INACTIVE and AVAIL_INACTIVE of a feeder, where a fan is lost, with the free
value that says whether the loss report waits at `w`. -/
def lostToTrip (w : Bool) (i : Nat) (s : State) : State :=
  ((s.modifyFan i (fun f => { f with trip := true })).nextFree.tripFan i .trip w).settle

def lostToIso (w : Bool) (i : Nat) (s : State) : State :=
  ((s.modifyFan i (fun f => { f with iso := true })).nextFree.loseFan i .isolated none w).settle

def lostToStop (w : Bool) (i : Nat) (s : State) : State :=
  ((s.modifyFan i (fun f => { f with fb := false, stuckTimer := none })).nextFree.tripFan i .uncommandedStop w).settle

def lostToDeath (w : Bool) (n : Nat) (s : State) : State :=
  ((s.modifyInputs n (fun x => { x with avail := false })).nextFree.feederDies n w).settle

/-- The commands do that, at the free value of the state. -/
theorem test_tripActive_draws : exec (.tripActive 1) fire = .next (lostToTrip fire.reportWaits 1 fire) := rfl

theorem test_isoActive_draws : exec (.isoActive 1) fire = .next (lostToIso fire.reportWaits 1 fire) := rfl

theorem test_fbInactive_draws : exec (.fbInactive 0) fire = .next (lostToStop fire.reportWaits 0 fire) := rfl

theorem test_availInactive_draws : exec (.availInactive 0) fire = .next (lostToDeath fire.reportWaits 0 fire) := rfl

/-- R105, R69: a member that trips is TRIPPED, leaves the duty set and raises FAN_FAULT and DUTY_CHANGE; its slot is
granted to the waiting fan. -/
theorem test_tripActive :
    let t := lostToTrip false 1 fire
    (t.fan 1).state = .tripped ∧ t.line.duty.map (fun m => m.fan) = [0, 3] ∧ t.events.set = 0x012#12
      ∧ (t.fan 3).state = .starting .forward (.ramp 10) := by decide +kernel

/-- R106: FB without RUN starts the stuck-running timer at the feedback allowance. -/
theorem test_fbActive_stuck :
    ((after (.fbActive 2) fire).fan 2).stuckTimer = some 3 := by decide +kernel

/-- R99: a ramp that ends without FB goes on to CONFIRM. -/
theorem test_rampTimerExpiry : ((after (.rampTimerExpiry 1) fire).fan 1).state = .starting .forward (.confirm 3) := by
  decide +kernel

/-- R111, R127: AVAIL becoming inactive takes the feeder DEAD and its fans UNPOWERED. -/
theorem test_availInactive : (lostToDeath false 0 fire).fans.map (fun f => f.state)
      = [.unpowered, .unpowered, .unpowered, .unpowered]
    ∧ (lostToDeath false 0 fire).line.duty = [] := by decide +kernel

/-- R125: VLOW on a READY feeder takes it to HOLD. -/
theorem test_vlowActive : (after (.vlowActive 0) fire).feeders.map (fun f => f.state) = [.hold] := by decide +kernel

/-- R75, R146: the 15th window end of the period makes the boundary. -/
theorem test_windowEnd : (after (.windowEnd 0xFFFF) fire).line.boundaryDue = some none
    ∧ (after (.windowEnd 0xFFFF) fire).line.windowCount = 0 := by decide +kernel

/-- R71: the hot-side fan accrues 30 s at the boundary, the others nothing. -/
theorem test_boundary :
    (after .controlPeriodBoundary { fire with line := { fire.line with boundaryDue := some none } }).fans.map
      (fun f => f.exposure) = [0, 0, 30, 30] := by decide +kernel

/-- R163: a well-formed frame that meets eight waiting frames is counted and discarded. -/
theorem test_frameDiscarded :
    let t := after (.frameDiscarded 0x02 []) { fire with link := { fire.link with tx := List.replicate 8 (.accept 0x12) } }
    t.link.goodFrames = 1 ∧ t.link.discards = 1 ∧ t.link.tx.length = 8 ∧ t.events.set = 0x400#12 := by decide +kernel

/-- A line in NORMAL with the watchdog's count as given: fans 0 to 2 STARTING, in both phases, with and without FB,
fan 3 QUEUED. -/
def startsAt (count : Nat) : State :=
  { normal [starting .forward (.confirm 1) .routine, { starting .forward (.ramp 1) .routine with fb := true },
      starting .reverse (.ramp 1) .routine, queued .forward .routine]
      { readyFeeder with startingCount := 3, routine := [{ fan := 3, dir := .forward }] } with
    link := { State.reset.link with watchdog := .counting count } }

def starts : State := startsAt 0

/-- R170, R19: the watchdog runs out in NORMAL under STOP_ALL: the QUEUED fan is IDLE and never started. -/
theorem test_linkTimeout :
    let t := after .linkTimeout (startsAt 120)
    t.link.watchdog = .lost ∧ t.events.set = 0x200#12
      ∧ t.fans.map (fun f => (f.state, f.run)) =
        [(.coasting, false), (.coasting, false), (.coasting, false), (.idle, false)] := by decide +kernel

/-- R19, R173: after a frame taken first the count is short of the timeout and nothing expires. -/
theorem test_linkTimeout_after_frame :
    let t := after .linkTimeout (after (.identify []) (startsAt 120))
    t.link.watchdog = .counting 0 ∧ t.fans = (startsAt 120).fans ∧ t.events.set = 0#12 := by decide +kernel

/-! ### Witnesses: for every statement with hypotheses, a state and operands that meet them -/

/-- A property of every fan of `fire`, fan by fan. -/
theorem fire_fans {P : Nat → Fan → Prop} (h0 : P 0 (running .forward .urgent))
    (h1 : P 1 (starting .forward (.ramp 1) .urgent)) (h2 : P 2 idle) (h3 : P 3 (queued .forward .urgent))
    (hn : ∀ n, P (n + 4) Fan.afterReset) : ∀ i, P i (fire.fan i)
  | 0 => h0
  | 1 => h1
  | 2 => h2
  | 3 => h3
  | n + 4 => hn n

theorem witness_StepTakesFrontCommand :
    ({ fire with pending := [.frameSent, .reloadPulse] } : State).pending = .frameSent :: [.reloadPulse] := rfl

/-- `fire` idles in its last second: fan 1's ramp, and with the timers set so, a coast, a confirm time, a stuck-running
timer, a settle timer, the window and the watchdog run out in it. -/
def lastSecond : State :=
  { normal [{ resting .coasting with coastTimer := 59 }, starting .forward (.confirm 1) .routine,
      { resting .isolated with iso := true, fb := true, stuckTimer := some 1 }, starting .reverse (.ramp 1) .routine]
      { readyFeeder with state := .settling, settleTimer := some 1, startingCount := 2 } with
    air := { channels := [channel], vm := none, windowTimer := some 1 }
    link := { State.reset.link with watchdog := .counting 119 } }

theorem witness_IdleStepPassesOneSecond :
    ({ lastSecond with line := { lastSecond.line with boundaryDue := some none } } : State).pending = []
    ∧ ({ lastSecond with line := { lastSecond.line with overtaken := true } } : State).line.overtaken = true
    ∧ lastSecond.pending = [] ∧ lastSecond.line.reports = [] ∧ lastSecond.line.boundaryDue = none ∧ lastSecond.line.overtaken = false
    ∧ (lastSecond.fan 0).coastTimer + 1 = lastSecond.coastTime 0
    ∧ (lastSecond.fan 1).state = .starting .forward (.confirm 1)
    ∧ (lastSecond.fan 2).stuckTimer = some 1 ∧ (lastSecond.fan 3).state = .starting .reverse (.ramp 1)
    ∧ (lastSecond.feeders[0]?).bind (fun f => f.settleTimer) = some 1
    ∧ lastSecond.air.windowTimer = some 1 ∧ 1 + 1 = lastSecond.windowSeconds
    ∧ lastSecond.link.watchdog = .counting 119 ∧ 119 + 1 = lastSecond.linkTimeout := by decide +kernel

/-- The command that waits in `fire` is taken. -/
theorem fire_steps : ∃ t, step fire = .next t := ⟨_, rfl⟩

theorem witness_StepKeepsOutputs : fire.OutputsOk ∧ fire.StuckTimersOk ∧ ∃ t, step fire = .next t := by
  refine ⟨?_, ?_, fire_steps⟩
  · refine (fire.forall_fans_iff _).mpr fun i _ => fire_fans (P := fun _ f => f.OutputsOk) ?_ ?_ ?_ ?_ ?_ i
    · exact ⟨by decide, by rintro d ⟨⟩; rfl⟩
    · exact ⟨by decide, by rintro d ⟨⟩; rfl⟩
    · exact ⟨by decide, by rintro d ⟨⟩⟩
    · exact ⟨by decide, by rintro d ⟨⟩⟩
    · exact fun _ => ⟨by decide, by rintro d ⟨⟩⟩
  · intro f hf
    have hn : f.stuckTimer = none := by
      simp only [fire, List.mem_cons, List.not_mem_nil, or_false, normal] at hf
      rcases hf with rfl | rfl | rfl | rfl <;> rfl
    simp [Fan.StuckTimerOk, hn]

theorem witness_StepKeepsCounts : fire.CountsOk ∧ fire.AirOk ∧ ∃ t, step fire = .next t := by
  refine ⟨⟨?_, ?_⟩, ?_, fire_steps⟩
  · rintro m ⟨⟩ f hf
    simp only [image, List.mem_cons, List.not_mem_nil, or_false] at hf
    rcases hf with rfl | rfl | rfl | rfl <;> decide
  · intro f hf
    simp only [fire, normal, List.mem_cons, List.not_mem_nil, or_false] at hf
    rcases hf with rfl | rfl | rfl | rfl <;> exact ⟨by decide, by decide⟩
  · intro c hc
    simp only [fire, normal, List.mem_cons, List.not_mem_nil, or_false] at hc
    subst hc
    exact ⟨by decide, by decide⟩

/-- The link at its fullest: eight frames, one of them an ATTENTION, the counts at their largest. -/
def fullLink : State :=
  { fire with link := { fire.link with
      tx := List.replicate 7 (.accept 0x12) ++ [.attention], goodFrames := 65535, crcErrors := 65535,
      discards := 65535 } }

theorem witness_StepKeepsLink : fullLink.LinkOk ∧ fullLink.EventsOk ∧ ∃ t, step fullLink = .next t :=
  ⟨⟨by decide, by decide, by decide, by decide, by decide⟩, ⟨by decide, rfl⟩, ⟨_, rfl⟩⟩

theorem modes_ok : fire.ModeOk ∧ fire.TimersOk ∧ State.reset.ModeOk ∧ State.reset.TimersOk := by
  simp only [State.ModeOk, State.TimersOk]
  decide

theorem witness_StepKeepsMode : fire.ModeOk ∧ fire.TimersOk ∧ ∃ t, step fire = .next t :=
  ⟨modes_ok.1, modes_ok.2.1, fire_steps⟩

theorem witness_StepKeepsScenario : fire.ScenarioOk ∧ ∃ t, step fire = .next t := by
  refine ⟨⟨?_, ?_⟩, fire_steps⟩
  · rintro m ⟨⟩ k hk
    simp only [image, List.mem_cons, List.not_mem_nil, or_false, or_self] at hk
    subst hk
    decide
  · rintro sc ⟨⟩
    exact ⟨by decide, by rintro v ⟨⟩, by decide, by decide, by decide, by decide⟩


theorem fire_duty : fire.DutyOk := ⟨by decide, by rintro sc ⟨⟩; decide⟩

theorem witness_StepKeepsDuty : fire.DutyOk ∧ ∃ t, step fire = .next t := ⟨fire_duty, fire_steps⟩

theorem fire_records : fire.RecordsOk := by
  refine ⟨?_, by intro h; simp [fire, normal] at h⟩
  rintro m ⟨⟩
  refine ⟨rfl, rfl, rfl, ?_⟩
  intro f hf
  simp only [image, List.mem_cons, List.not_mem_nil, or_false] at hf
  rcases hf with rfl | rfl | rfl | rfl <;> decide

theorem fire_queues : fire.QueuesOk where
  running := fire_fans (P := fun _ f => ∀ d, f.state.dir? = some d → ∃ c, f.demand = .run d c)
    (by rintro d ⟨⟩; exact ⟨_, rfl⟩) (by rintro d ⟨⟩; exact ⟨_, rfl⟩) (by rintro d ⟨⟩) (by rintro d ⟨⟩)
    (by rintro n d ⟨⟩)
  queued := fire_fans (P := fun i f => f.state = .queued → ∃ n g d c, fire.feederOf i = some n
      ∧ fire.feeders[n]? = some g ∧ f.demand = .run d c ∧ { fan := i, dir := d } ∈ g.group c)
    (by rintro ⟨⟩) (by rintro ⟨⟩) (by rintro ⟨⟩)
    (fun _ => ⟨0, _, .forward, .urgent, by decide, rfl, rfl, by simp [Feeder.group]⟩) (by rintro n ⟨⟩)
  entries := by
    intro n f c e hf he
    match n with
    | 0 =>
      cases hf
      cases c
      · simp only [Feeder.group, List.mem_cons, List.not_mem_nil, or_false] at he
        subst he
        exact ⟨by decide, by decide, by decide⟩
      · simp [Feeder.group, readyFeeder] at he
    | n + 1 => simp [fire, normal] at hf
  once := by
    intro f hf
    simp only [fire, normal, List.mem_cons, List.not_mem_nil, or_false] at hf
    subst hf
    decide
  idle := fire_fans (P := fun _ f => f.state = .idle → f.demand = .none) (by rintro ⟨⟩) (by rintro ⟨⟩)
    (fun _ => rfl) (by rintro ⟨⟩) (by rintro n ⟨⟩)
  starting := by
    intro n f hf
    match n with
    | 0 => cases hf; decide
    | n + 1 => simp [fire, normal] at hf
  stopped := by intro h; simp [fire, normal, LineMode.isOperating] at h

theorem fire_members : fire.MembersOk where
  member := by
    rintro sc ⟨⟩
    exact fire_fans (P := fun i f => fire.isMember i = true →
        f.demand = .run .forward .urgent ∧ (f.state.isWorking = true ∨ i ∈ fire.line.reports))
      (fun _ => ⟨rfl, .inl rfl⟩) (fun _ => ⟨rfl, .inl rfl⟩) (by decide) (fun _ => ⟨rfl, .inl rfl⟩)
      (by intro n h; simp [State.isMember, fire] at h)
  others := fun _ => fire_fans (P := fun i f => fire.isMember i = false → f.demand = .none)
    (by decide) (by decide) (fun _ => rfl) (by decide) (fun _ _ => rfl)
  routine := by intro h; simp [fire] at h

theorem fire_coasts : fire.CoastsOk :=
  fire_fans (P := fun i f => (f.state = .idle ∨ f.state = .queued ∨ f.state.dir?.isSome = true) →
      decide (fire.coastTime i ≤ f.coastTimer) = true)
    (by decide) (by decide) (by decide) (by decide) (by intro n h; simp [Fan.afterReset, FanState.dir?] at h)

theorem witness_StepKeepsRecords : fire.ModeOk ∧ fire.RecordsOk ∧ ∃ t, step fire = .next t :=
  ⟨modes_ok.1, fire_records, fire_steps⟩

theorem witness_StepKeepsQueues : fire.ModeOk ∧ fire.RecordsOk ∧ fire.QueuesOk ∧ ∃ t, step fire = .next t :=
  ⟨modes_ok.1, fire_records, fire_queues, fire_steps⟩

theorem witness_StepKeepsSlots : fire.SlotsOk ∧ fire.ModeOk ∧ fire.RecordsOk ∧ fire.QueuesOk ∧ fire.GrantsOk
    ∧ ∃ t, step fire = .next t := by
  refine ⟨fun n f hf => ?_, modes_ok.1, fire_records, fire_queues, fun n f hf _ hfree => ?_, fire_steps⟩
  · match n with
    | 0 => cases hf; decide
    | n + 1 => simp [fire, normal] at hf
  · match n with
    | 0 => cases hf; exact absurd hfree (by decide)
    | n + 1 => simp [fire, normal] at hf

theorem witness_StepKeepsMembers : fire.ModeOk ∧ fire.RecordsOk ∧ fire.QueuesOk ∧ fire.DutyOk ∧ fire.MembersOk
    ∧ ∃ t, step fire = .next t :=
  ⟨modes_ok.1, fire_records, fire_queues, fire_duty, fire_members, fire_steps⟩

theorem witness_StepKeepsCoasts : fire.ModeOk ∧ fire.RecordsOk ∧ fire.QueuesOk ∧ fire.CountsOk ∧ fire.CoastsOk
    ∧ ∃ t, step fire = .next t :=
  ⟨modes_ok.1, fire_records, fire_queues, witness_StepKeepsCounts.1, fire_coasts, fire_steps⟩

/-! The image of `image` as the configuration memory holds it (R179), section by section; the check is worked by hand
from R161. -/

def headerBytes : List Byte := [0x4A, 0x54, 0, 0, 0, 7, 4, 1, 1, 0]

def tunnelBytes : List Byte :=
  [0x0F, 0xA0, 0x02, 0x8A, 0x04, 0xE2, 0x00, 0x96, 0x04, 0xB0, 0x01, 0x4A, 20, 80, 1, 30, 2, 15, 0x00, 0x64, 3, 120, 1]

def classBytes : List Byte := [0x01, 0x2C, 0, 30, 0, 100, 0x01, 0xF4, 0x01, 0x2C, 0, 30, 0, 100, 0x01, 0xF4]

def nearFanBytes : List Byte :=
  [0x00, 0xC8, 0, 0x05, 0xDC, 85, 0, 90, 10, 0, 60, 30, 0x05, 0x78, 0, 0x05, 0xDC, 85, 0, 90, 10, 0, 60, 30]

def farFanBytes : List Byte :=
  [0x0A, 0x28, 0, 0x05, 0xDC, 85, 0, 90, 10, 0, 60, 30, 0x0E, 0xD8, 0, 0x05, 0xDC, 85, 0, 90, 10, 0, 60, 30]

/-- The image up to its check, with the bytes of the one channel record. -/
def bodyWith (channel : List Byte) : List Byte :=
  headerBytes ++ (tunnelBytes ++ (classBytes ++ (classBytes ++ ([1, 20] ++ (nearFanBytes ++ (farFanBytes ++
    channel))))))

/-- The channel of `image`, one with k below its range, one beyond the end of the bore. -/
def goodChannel : List Byte := [0x03, 0x84, 0, 100, 0x05, 0xDC]
def lowScaleChannel : List Byte := [0x03, 0x84, 0, 9, 0x05, 0xDC]
def beyondChannel : List Byte := [0x0F, 0xA1, 0, 100, 0x05, 0xDC]

def imageBytes : List Byte := bodyWith goodChannel ++ [0x16, 0x9D]

theorem test_crc_header : headerBytes.foldl crcByte 0xFFFF#16 = 0x3E0E#16 := by decide +kernel

theorem test_crc_tunnel : tunnelBytes.foldl crcByte 0x3E0E#16 = 0x3C76#16 := by decide +kernel

theorem test_crc_classes : classBytes.foldl crcByte 0x3C76#16 = 0xF361#16
    ∧ classBytes.foldl crcByte 0xF361#16 = 0x383F#16 := by decide +kernel

theorem test_crc_fans : nearFanBytes.foldl crcByte 0x2A04#16 = 0x985F#16
    ∧ farFanBytes.foldl crcByte 0x985F#16 = 0x9B83#16 := by decide +kernel

theorem test_crc_rest : ([1, 20] : List Byte).foldl crcByte 0x383F#16 = 0x2A04#16
    ∧ goodChannel.foldl crcByte 0x9B83#16 = 0x169D#16 ∧ lowScaleChannel.foldl crcByte 0x9B83#16 = 0xCFA7#16
    ∧ beyondChannel.foldl crcByte 0x9B83#16 = 0x369D#16 := by decide +kernel

theorem bodyWith_crc (channel : List Byte) : crc16 (bodyWith channel) = channel.foldl crcByte 0x9B83#16 := by
  simp only [crc16, bodyWith, List.foldl_append, test_crc_header, test_crc_tunnel, test_crc_classes, test_crc_fans,
    test_crc_rest]

theorem bodyWith_take (channel check : List Byte) (h : channel.length = 6) :
    (bodyWith channel ++ check).take 121 = bodyWith channel := by
  refine List.take_left' ?_
  simp [bodyWith, headerBytes, tunnelBytes, classBytes, nearFanBytes, farFanBytes, h]

/-- The fields of the image with the fields of the one channel and the check as given. -/
def rawImage (channel : List Nat) (check : Nat) : RawImage :=
  { identifier := 7, check := check
    tunnel := [4000, 650, 1250, 150, 1200, 330, 20, 80, 1, 30, 2, 15, 100, 3, 120, 1]
    classes := List.replicate 4 [300, 30, 100, 500], feeders := [[1, 20]]
    fans := [200, 1400, 2600, 3800].map (fun x => [x, 0, 1500, 85, 0, 90, 10, 60, 30])
    channels := [channel], plans := [] }

/-- The bytes are read into their fields, whatever the check (R179). -/
theorem test_readImage : readImage imageBytes = .ok (rawImage [900, 100, 1500] 0x169D, 121)
    ∧ readImage (bodyWith goodChannel ++ [0, 0]) = .ok (rawImage [900, 100, 1500] 0, 121)
    ∧ readImage (bodyWith lowScaleChannel ++ [0xCF, 0xA7]) = .ok (rawImage [900, 9, 1500] 0xCFA7, 121)
    ∧ readImage (bodyWith beyondChannel ++ [0x36, 0x9D]) = .ok (rawImage [4001, 100, 1500] 0x369D, 121) := by
  decide +kernel

/-- The image handed on is `image`, but for its identifier and its check. -/
theorem test_build : (rawImage [900, 100, 1500] 0x169D).build = { image with crc := 0x169D#16 }
    ∧ (rawImage [900, 100, 1500] 0x169D).rangesOk = true ∧ (rawImage [900, 100, 1500] 0x169D).referencesOk = true := by
  decide +kernel

theorem imageBytes_good : ∃ m, loadImage imageBytes = .ok m := by
  unfold loadImage
  rw [test_readImage.1]
  have ht : imageBytes.take 121 = bodyWith goodChannel := bodyWith_take _ _ rfl
  simp only [ht, bodyWith_crc, test_crc_rest, test_build]
  exact ⟨_, rfl⟩

/-- A load in progress, the feeders' inputs so that the three cases of R138 occur, the fans in the placed states. -/
def loading : State :=
  { State.reset with
    feederInputs := [{ avail := true, vlow := false }, { avail := true, vlow := true }, { avail := false, vlow := true },
      { avail := false, vlow := false }]
    fans := [resting .idle, resting .coasting, { resting .isolated with lockout := true }, resting .unpowered,
      resting .tripped, resting .failed] }

theorem witness_GoodLoadEntersNormal : loading.loader.load = .reading ∧ loading.ModeOk ∧ loading.events.ask = false
    ∧ (∃ m, loadImage imageBytes = .ok m) ∧ (∀ i, i < image.fans.length → (loading.fan i).demand = .none)
    ∧ (loading.fan 0).run = false := by
  refine ⟨rfl, ?_, rfl, imageBytes_good, by decide, rfl⟩
  simp only [State.ModeOk]
  decide

theorem witness_FailedLoadEntersConfigFault : loading.loader.load = .reading ∧ loadImage [] = .error .noResponse
    ∧ fire.loader.load = .idle := ⟨rfl, rfl, rfl⟩

theorem witness_LoadFailuresTakeTheirOrder :
    (headerBytes.take 9).length < 10
    ∧ 10 ≤ (0x4A :: 0x55 :: headerBytes.drop 2).length ∧ beNat ((0x4A :: 0x55 :: headerBytes.drop 2).take 2) ≠ 0x4A54
    ∧ ((0x41#8).toNat = 65 ∧ 64 < (0x41#8).toNat ∧ 16 < (17#8).toNat ∧ 4 < (5#8).toNat ∧ 32 < (33#8).toNat)
    ∧ readImage (bodyWith goodChannel ++ [0, 0]) = .ok (rawImage [900, 100, 1500] 0, 121)
    ∧ BitVec.ofNat 16 (rawImage [900, 100, 1500] 0).check ≠ crc16 ((bodyWith goodChannel ++ [0, 0]).take 121) := by
  refine ⟨by decide, by decide, by decide, by decide, test_readImage.2.1, ?_⟩
  rw [bodyWith_take _ _ rfl, bodyWith_crc, test_crc_rest.2.1]
  decide

/-- A header with one plan, whose record begins at byte 121; the rest of the memory is 0 but for the last flags given.
-/
def planMemory (flags : List Byte) : List Byte :=
  headerBytes.take 9 ++ [1] ++ List.replicate 111 0 ++ List.replicate 6 0 ++ flags.flatMap (fun x => [0, 0, 0, x])

/-- The second last flag is 2; all eight are 0. -/
theorem witness_LoadFailures_flags : 121 = 65 + 2 * (1#8).toNat + 12 * (4#8).toNat + 6 * (1#8).toNat
    ∧ (planMemory [0, 2])[121 + 6 + 4 * 0 + 3]? = some 0 ∧ (planMemory [0, 2])[121 + 6 + 4 * 1 + 3]? = some 2
    ∧ (∀ j, j < 8 → (planMemory (List.replicate 8 0))[121 + 6 + 4 * j + 3]? = some 0)
    ∧ loadImage (planMemory [0, 2]) = .error .badFormat
    ∧ loadImage (planMemory (List.replicate 8 0)) = .error .badFormat := by decide +kernel

/-- A field lies outside its range. -/
def Outside (ranges : List (Nat × Nat)) (fields : List Nat) : Prop :=
  ∃ (n : Nat) (r : Nat × Nat) (v : Nat), ranges[n]? = some r ∧ fields[n]? = some v ∧ (v < r.1 ∨ r.2 < v)

theorem not_outside (ranges : List (Nat × Nat)) (fields : List Nat)
    (h : ∀ p ∈ ranges.zip fields, p.1.1 ≤ p.2 ∧ p.2 ≤ p.1.2) : ¬ Outside ranges fields := by
  rintro ⟨n, r, v, hr, hv, ho⟩
  have := h (r, v) (List.mem_of_getElem? (i := n) (by simp [List.getElem?_zip_eq_some, hr, hv]))
  simp only at this
  omega

/-- The scale of 9 is out of its range; the channel at 4001 refers beyond the bore of 4000, with every field in range;
both checks match. -/
theorem witness_LoadFailures_range_and_reference :
    BitVec.ofNat 16 (rawImage [900, 9, 1500] 0xCFA7).check =
      crc16 ((bodyWith lowScaleChannel ++ [0xCF, 0xA7]).take 121)
    ∧ Outside [(0, 30000), (10, 1000), (500, 3000)] [900, 9, 1500]
    ∧ BitVec.ofNat 16 (rawImage [4001, 100, 1500] 0x369D).check =
      crc16 ((bodyWith beyondChannel ++ [0x36, 0x9D]).take 121)
    ∧ (∃ y ∈ (rawImage [4001, 100, 1500] 0x369D).channels, ∃ x l, y[0]? = some x
      ∧ (rawImage [4001, 100, 1500] 0x369D).tunnel[0]? = some l ∧ l < x)
    ∧ ¬ Outside [(500, 30000), (200, 1500), (0, 10000), (0, 1000), (1000, 1300), (200, 450), (0, 200), (50, 100),
        (0, 4), (10, 100), (1, 10), (2, 30), (50, 1000), (1, 10), (5, 120), (0, 1)] (rawImage [4001, 100, 1500] 0).tunnel
    ∧ ¬ Outside [(100, 600), (0, 500), (0, 500), (0, 2000)] [300, 30, 100, 500]
    ∧ ¬ Outside [(1, 4), (1, 60)] [1, 20]
    ∧ (∀ x ∈ [200, 1400, 2600, 3800], ¬ Outside [(0, 30000), (0, 3), (100, 4000), (50, 100), (0, 1), (50, 100), (2, 60),
        (10, 600), (15, 240)] [x, 0, 1500, 85, 0, 90, 10, 60, 30])
    ∧ ¬ Outside [(0, 30000), (10, 1000), (500, 3000)] [4001, 100, 1500] := by
  refine ⟨?_, ⟨1, (10, 1000), 9, rfl, rfl, by decide⟩, ?_, 
    ⟨[4001, 100, 1500], by simp [rawImage], 4001, 4000, rfl, rfl, by decide⟩, not_outside _ _ (by decide),
    not_outside _ _ (by decide), not_outside _ _ (by decide), ?_, not_outside _ _ (by decide)⟩
  · rw [bodyWith_take _ _ rfl, bodyWith_crc, test_crc_rest.2.2.1]; rfl
  · rw [bodyWith_take _ _ rfl, bodyWith_crc, test_crc_rest.2.2.2]; rfl
  · intro x hx
    simp only [List.mem_cons, List.not_mem_nil, or_false] at hx
    rcases hx with rfl | rfl | rfl | rfl <;> exact not_outside _ _ (by decide)

/-- A line that may be reloaded: RUN off, coasts ended, no lockout; one fan in each kind of holding state. -/
def reloadable : State :=
  normal [idle, { resting .tripped with trip := true }, { resting .isolated with iso := true },
    { resting .failed with restartUsed := true, fb := true }] readyFeeder

theorem witness_AcceptedReloadStartsLoad : reloadable.ModeOk ∧ reloadable.OutputsOk ∧ reloadable.events.ask = false
    ∧ (∀ i, i < reloadable.fanCount → (reloadable.fan i).run = false) ∧ reloadable.line.mode = .normal
    ∧ (∀ i, i < reloadable.fanCount → reloadable.coastTime i ≤ (reloadable.fan i).coastTimer
      ∧ (reloadable.fan i).lockout = false) ∧ reloadable.link.tx.length < 8
    ∧ (reloadable.fan 3).state = .failed ∧ (reloadable.fan 3).fb = true
    ∧ ((after .reloadPulse reloadable).fan 3).stuckTimer = some 3 := by
  refine ⟨by simp only [State.ModeOk]; decide, ?_, rfl, by decide, rfl, by decide, by decide, rfl, rfl, by decide +kernel⟩
  intro f hf
  simp only [reloadable, normal, List.mem_cons, List.not_mem_nil, or_false] at hf
  rcases hf with rfl | rfl | rfl | rfl <;> exact ⟨by decide, by rintro d ⟨⟩⟩

/-- A line at rest, with an empty queue and no fan STARTING, RUNNING or QUEUED, fits together. -/
theorem queuesOk_of_rest (fans : List Fan) (g : Feeder) (hu : g.urgent = []) (hr : g.routine = [])
    (hc : g.startingCount = 0) (hs : ∀ i, ((normal fans g).fan i).state.dir? = none
      ∧ ((normal fans g).fan i).state ≠ .queued
      ∧ (((normal fans g).fan i).state = .idle → ((normal fans g).fan i).demand = .none)) : (normal fans g).QueuesOk where
  running := fun i d h => by rw [(hs i).1] at h; cases h
  queued := fun i h => absurd h (hs i).2.1
  entries := by
    intro n f c e hf he
    match n with
    | 0 => cases hf; cases c <;> simp [Feeder.group, hu, hr] at he
    | n + 1 => simp [normal] at hf
  once := by
    intro f hf
    simp only [normal, List.mem_cons, List.not_mem_nil, or_false] at hf
    subst hf
    simp [hu, hr]
  idle := fun i => (hs i).2.2
  starting := by
    intro n f hf
    match n with
    | 0 =>
      cases hf
      have hnone : ∀ i, ((normal fans g).fan i).state.isStarting = false := fun i => by
        have := (hs i).1
        cases h : ((normal fans g).fan i).state <;> simp_all [FanState.isStarting, FanState.dir?]
      simp [hnone, hc]
    | n + 1 => simp [normal] at hf
  stopped := by intro h; simp [normal, LineMode.isOperating] at h

/-- The queue clauses of an accepted reload hold of `reloadable`; fan 1, tripped, raises FAN_FAULT. -/
theorem witness_AcceptedReloadStartsLoad_queues : reloadable.QueuesOk
    ∧ (after .reloadPulse reloadable).events.set = 0x010#12 := by
  refine ⟨queuesOk_of_rest _ _ rfl rfl rfl fun i => ?_, by decide +kernel⟩
  match i with
  | 0 => exact ⟨rfl, by decide, fun _ => rfl⟩
  | 1 => exact ⟨rfl, by decide, fun _ => rfl⟩
  | 2 => exact ⟨rfl, by decide, fun _ => rfl⟩
  | 3 => exact ⟨rfl, by decide, fun _ => rfl⟩
  | n + 4 => exact ⟨rfl, by simp [State.fan, normal, Fan.afterReset], fun _ => rfl⟩

/-- A QUEUED fan, with RUN off and its coast ended, does not hinder a reload and becomes IDLE (R122, R183). -/
theorem witness_AcceptedReload_queued :
    let s := normal [queued .forward .routine, idle, idle, idle]
      { readyFeeder with state := .hold, routine := [{ fan := 0, dir := .forward }] }
    s.line.mode = .normal ∧ (∀ i, i < s.fanCount → (s.fan i).run = false ∧ s.coastTime i ≤ (s.fan i).coastTimer
      ∧ (s.fan i).lockout = false) ∧ (s.fan 0).state = .queued ∧ (s.fan 0).demand ≠ .none
    ∧ ((after .reloadPulse s).fan 0).state = .idle := by decide +kernel

theorem witness_ReloadNotAccepted : fire.CanTake ∧ fire.line.mode = .fire ∧ State.reset.line.mode = .loading
    ∧ (let s := normal [idle, { idle with coastTimer := 59, state := .coasting }, idle, idle] readyFeeder
      s.CanTake ∧ s.line.mode = .normal ∧ (s.fan 1).coastTimer < s.coastTime 1)
    ∧ (let s := normal [idle, idle, idle, running .forward .routine] readyFeeder
      s.line.mode = .normal ∧ (s.fan 3).run = true)
    ∧ (let s := normal [idle, idle, { resting .isolated with lockout := true }, idle] readyFeeder
      s.line.mode = .normal ∧ (s.fan 2).lockout = true) := by
  simp only [State.CanTake]
  decide

/-- `fire` with a framer state. -/
def framing (f : Framer) : State := { fire with link := { fire.link with framer := f } }

theorem witness_DroppedFrameIsCounted :
    fire.events.ask = false ∧ (framing (.collecting [])).link.framer = .collecting []
    ∧ (framing .skipping).link.framer = .skipping ∧ fire.link.framer = .hunting := ⟨rfl, rfl, rfl, rfl⟩

/-- The DUTY reply of `fire` by the table of spec/09 section 9.6, with 1158 = 0x0486 and 926 = 0x039E, and a FAN record
of a fan in the RAMP phase. -/
theorem test_payload :
    (Reply.duty fire.line.duty).payload =
      [3, 0, 0, 1, 0x04, 0x86, 0, 1, 1, 2, 0x04, 0x86, 0, 3, 1, 3, 0x03, 0x9E, 0]
    ∧ (Reply.fan (fire.fanReply 1 (fanAt 1400))).payload =
      [1, 0x05, 0x78, 0, 0x05, 0xDC, 85, 0, 90, 10, 0, 60, 30, 2, 1, 1, 1, 0, 1, 0, 0, 0, 0, 0, 0, 0, 0, 0, 0, 0, 0, 0, 0,
        1, 2] := by decide +kernel

theorem witness_FrameSentLeavesTheQueue :
    ({ fire with link := { fire.link with tx := [.attention] } } : State).link.tx =
    .attention :: [] ∧ fire.link.tx = [] := ⟨rfl, rfl⟩

theorem witness_FullQueueDiscardsFrames :
    (Instr.activateFire (List.replicate 255 0#8)).frame? = some (0x10, List.replicate 255 0#8)
    ∧ (List.replicate 255 0#8).length ≤ 255 ∧ 8 ≤ fullLink.link.tx.length ∧ fullLink.events.ask = false := by
  refine ⟨rfl, by simp only [List.length_replicate]; decide, by decide, rfl⟩

theorem witness_RequestChecksTakeTheirOrder : fire.CanTake ∧ State.reset.CanTake
    ∧ (Instr.unknownType 0x0A []).frame? = some (0x0A, []) ∧ (0x0A#8) ∉ requestTypes
    ∧ (Instr.getFan []).frame? = some (0x03, []) ∧ (0x03#8) ∈ requestTypes ∧ State.reset.line.mode = .loading
    ∧ (0x03#8) ∉ [0x01#8, 0x02#8, 0x08#8, 0x09#8] ∧ fire.line.mode = .fire ∧ ([] : List Byte).length ∉ allowedLengths 0x03
    ∧ (Instr.activateFire [0, 0, 0, 0, 0, 0, 0]).frame? = some (0x10, [0, 0, 0, 0, 0, 0, 0])
    ∧ ([0, 0, 0, 0, 0, 0, 0] : List Byte).length ∉ allowedLengths 0x10 := by
  simp only [State.CanTake]
  decide

/-- A property of every fan of `startsAt`, fan by fan. -/
theorem starts_fans {n : Nat} {P : Nat → Fan → Prop} (h0 : P 0 (starting .forward (.confirm 1) .routine))
    (h1 : P 1 { starting .forward (.ramp 1) .routine with fb := true }) (h2 : P 2 (starting .reverse (.ramp 1) .routine))
    (h3 : P 3 (queued .forward .routine)) (hn : ∀ k, P (k + 4) Fan.afterReset) : ∀ i, P i ((startsAt n).fan i)
  | 0 => h0
  | 1 => h1
  | 2 => h2
  | 3 => h3
  | k + 4 => hn k

theorem starts_queues (count : Nat) : (startsAt count).QueuesOk where
  running := starts_fans (P := fun _ f => ∀ d, f.state.dir? = some d → ∃ c, f.demand = .run d c)
    (by rintro d ⟨⟩; exact ⟨_, rfl⟩) (by rintro d ⟨⟩; exact ⟨_, rfl⟩) (by rintro d ⟨⟩; exact ⟨_, rfl⟩) (by rintro d ⟨⟩)
    (by rintro n d ⟨⟩)
  queued := starts_fans (P := fun i f => f.state = .queued → ∃ n g d c, (startsAt count).feederOf i = some n
      ∧ (startsAt count).feeders[n]? = some g ∧ f.demand = .run d c ∧ { fan := i, dir := d } ∈ g.group c)
    (by rintro ⟨⟩) (by rintro ⟨⟩) (by rintro ⟨⟩)
    (fun _ => ⟨0, _, .forward, .routine, rfl, rfl, rfl, by simp [Feeder.group]⟩) (by rintro n ⟨⟩)
  entries := by
    intro n f c e hf he
    match n with
    | 0 =>
      cases hf
      cases c
      · simp [Feeder.group, readyFeeder] at he
      · simp only [Feeder.group, List.mem_cons, List.not_mem_nil, or_false] at he
        subst he
        exact ⟨rfl, rfl, rfl⟩
    | n + 1 => simp [startsAt, normal] at hf
  once := by
    intro f hf
    simp only [startsAt, normal, List.mem_cons, List.not_mem_nil, or_false] at hf
    subst hf
    decide
  idle := starts_fans (P := fun _ f => f.state = .idle → f.demand = .none) (by rintro ⟨⟩) (by rintro ⟨⟩) (by rintro ⟨⟩)
    (by rintro ⟨⟩) (by rintro n ⟨⟩)
  starting := by
    intro n f hf
    match n with
    | 0 => cases hf; rfl
    | n + 1 => simp [startsAt, normal] at hf
  stopped := by intro h; simp [startsAt, normal, LineMode.isOperating] at h

theorem starts_members (count : Nat) : (startsAt count).MembersOk where
  member := by rintro sc ⟨⟩
  others := by rintro ⟨⟩
  routine := fun _ => starts_fans (P := fun _ f => ∀ d c, f.demand = .run d c → c = .routine)
    (by rintro d c ⟨⟩; rfl) (by rintro d c ⟨⟩; rfl) (by rintro d c ⟨⟩; rfl) (by rintro d c ⟨⟩; rfl) (by rintro n d c ⟨⟩)

theorem witness_LinkTimeoutAppliesTheFallback :
    (startsAt 120).events.ask = false ∧ (startsAt 120).link.watchdog = .counting 120
    ∧ (startsAt 120).image = some image ∧ image.tunnel.linkTimeout ≤ 120 ∧ (startsAt 120).line.mode = .normal
    ∧ image.tunnel.fallback = .stopAll ∧ (startsAt 120).QueuesOk
    ∧ (startsAt 119).link.watchdog = .counting 119 ∧ 119 < image.tunnel.linkTimeout
    ∧ fire.line.mode = .fire ∧ State.reset.link.watchdog = .stopped :=
  ⟨rfl, rfl, rfl, by decide, rfl, rfl, starts_queues 120, rfl, by decide, rfl, rfl⟩

theorem witness_BytesOfAFrameAreItsRequest : fire.link.framer = .hunting
    ∧ (List.replicate 255 0#8).length ≤ 255 := by
  refine ⟨rfl, ?_⟩
  simp only [List.length_replicate]
  decide

theorem witness_BytesOutsideAFrame : (framing .hunting).link.framer = .hunting ∧ (0xA4#8) ≠ 0xA5#8
    ∧ (framing .skipping).link.framer = .skipping ∧ (framing (.collecting [0])).link.framer = .collecting [0]
    ∧ be16 0 0 = 0 ∧ 256 < be16 1 1 ∧ 1 ≤ be16 1 0 ∧ be16 1 0 ≤ 256
    ∧ (framing (.collecting [0, 1, 5, 0])).link.framer = .collecting (0 :: 1 :: [5, 0])
    ∧ ([5, 0] : List Byte).length + 1 = be16 0 1 + 2
    ∧ beNat (([0, 1, 5, 0] ++ [0] : List Byte).drop (be16 0 1 + 2)) ≠
      (crc16 (([0, 1, 5, 0] ++ [0]).take (be16 0 1 + 2))).toNat
    ∧ ([5] : List Byte).length + 1 < be16 0 1 + 2 := by
  decide +kernel

theorem witness_QueriesReportAndChangeNothing_and_StatusAndFanReplies :
    fire.CanTake ∧ fire.line.mode = .fire ∧ fire.feeders.length ≤ (1#8).toNat
    ∧ (fire.feeders[(0#8).toNat]?).isSome = true ∧ fire.line.scenario = some scenario
    ∧ fire.fanStatic? (4#8).toNat = none ∧ (fire.fanStatic? (3#8).toNat).isSome = true
    ∧ (normal [idle] readyFeeder).line.scenario = none := by
  simp only [State.CanTake]
  decide

theorem witness_ReadEventsEmptiesTheSet_and_EventMaskReplaced :
    fire.CanTake ∧ fire.EventsOk ∧ (0xF0#8 ++ 0x01#8).getLsbD EventKind.fireMode.bit = true
    ∧ fire.events.mask.getLsbD EventKind.fireMode.bit = true := by
  refine ⟨?_, ⟨by decide, rfl⟩, by decide, by decide⟩
  simp only [State.CanTake]
  decide

/-- `fire` with every kind masked: SHORTFALL and FEEDBACK_LOST, whose conditions hold, are latched once unmasked. -/
def masked : State := { fire with events := { fire.events with mask := 0 } }

theorem witness_EventMaskReplaced_unmasks : masked.CanTake ∧ masked.EventsOk
    ∧ masked.events.mask.getLsbD EventKind.shortfall.bit = false
    ∧ (0xFF#8 ++ 0xFF#8).getLsbD EventKind.shortfall.bit = true
    ∧ (after (.setEventMask [0xFF, 0xFF]) masked).link.tx = [.accept 0x09, .attention] := by
  refine ⟨?_, ⟨by decide, rfl⟩, by decide, by decide, by decide +kernel⟩
  simp only [State.CanTake]
  decide

/-- ACTIVATE_FIRE at 4000 (the end of the bore), REVERSE, class 3, with a target below the clamp. -/
def firePayload : List Byte := [0x0F, 0xA0, 1, 3, 0xFF, 0xFF, 0x00, 0x00]

theorem witness_ActivationEntersFire :
    let s := normal [running .forward .routine, idle, idle, { resting .tripped with coastTimer := 60 }] readyFeeder
    s.CanTake ∧ s.ModeOk ∧ s.line.mode = .normal ∧ s.image = some image
    ∧ operandFire firePayload = some
        { chainage := 4000, directionCode := 1, fireClass := 3, trainLength := 65535, target := some 0 }
    ∧ image.classes[3]? = some fireClass ∧ directionOfCode 1 = some .reverse ∧ 4000 ≤ image.tunnel.length := by
  simp only [State.CanTake, State.ModeOk]
  decide

/-- Fan 2, STARTING in REVERSE, is on the list of `firePayload` and joins as INITIAL. -/
theorem witness_ActivationEntersFire_initial : starts.CanTake ∧ starts.ModeOk ∧ starts.line.mode = .normal
    ∧ starts.image = some image ∧ starts.RecordsOk ∧ starts.QueuesOk ∧ starts.MembersOk
    ∧ (starts.fan 2).state.dir? = some .reverse ∧ (starts.fan 3).state = .queued
    ∧ (after (.activateFire firePayload) starts).line.duty.map (fun x => (x.fan, x.reason)) =
      [(2, .initial), (0, .need), (1, .need)]
    ∧ (after (.activateFire firePayload) starts).fans.map (fun f => f.state) =
      [.coasting, .coasting, .starting .reverse (.ramp 1), .idle] := by
  refine ⟨by simp only [State.CanTake]; decide, by simp only [State.ModeOk]; decide, rfl, rfl, ⟨fun m hm => ?_, ?_⟩,
    starts_queues 0, starts_members 0, rfl, rfl, by decide +kernel, by decide +kernel⟩
  · cases hm
    exact fire_records.1 image rfl
  · rintro ⟨⟩

theorem starts_outputs : starts.OutputsOk := by
  refine (starts.forall_fans_iff _).mpr fun i _ => starts_fans (n := 0) (P := fun _ f => f.OutputsOk) ?_ ?_ ?_ ?_ ?_ i
  · exact ⟨by decide, by rintro d ⟨⟩; rfl⟩
  · exact ⟨by decide, by rintro d ⟨⟩; rfl⟩
  · exact ⟨by decide, by rintro d ⟨⟩; rfl⟩
  · exact ⟨by decide, by rintro d ⟨⟩⟩
  · exact fun _ => ⟨by decide, by rintro d ⟨⟩⟩

/-- The premises of the evaluated line of an activation: those of the INITIAL members, and the outputs. -/
theorem witness_ActivationEntersFire_evaluated : starts.RecordsOk ∧ starts.QueuesOk ∧ starts.OutputsOk
    ∧ starts.MembersOk :=
  ⟨witness_ActivationEntersFire_initial.2.2.2.2.1, starts_queues 0, starts_outputs, starts_members 0⟩

/-- An update keeps the order and the reasons (R68). A redirection lets its members leave in join order (R67): the
slot that fan 1 frees starts fan 3 (R133, R134), which then leaves in its turn. -/
theorem witness_ActivateFireInFire_keeps_and_empties : fire.ModeOk ∧ fire.RecordsOk ∧ fire.QueuesOk ∧ fire.DutyOk
    ∧ fire.MembersOk ∧ directionOfCode 0 = some scenario.direction ∧ directionOfCode 1 ≠ some scenario.direction
    ∧ (after (.activateFire [0x0F, 0xA0, 0, 0, 0, 0]) fire).line.duty.map (fun x => (x.fan, x.reason)) =
      [(0, .initial), (1, .need), (3, .need), (2, .need)]
    ∧ (after (.activateFire firePayload) fire).fans.map (fun f => f.state) =
      [.coasting, .coasting, .starting .reverse (.ramp 10), .coasting] :=
  ⟨modes_ok.1, fire_records, fire_queues, fire_duty, fire_members, rfl, by decide, by decide +kernel,
    by decide +kernel⟩

theorem witness_ActivateFireInFireReplacesTheFigures :
    fire.CanTake ∧ fire.line.mode = .fire ∧ fire.line.scenario = some scenario
    ∧ fire.image = some image ∧ image.classes[3]? = some fireClass ∧ directionOfCode 1 = some .reverse
    ∧ (operandFire [0x0F, 0xA1, 0, 0, 0, 0]).map (fun r => decide (image.tunnel.length < r.chainage)) = some true
    ∧ (operandFire [0, 0, 0, 4, 0, 0]).map (fun r => decide (3 < r.fireClass)) = some true
    ∧ (operandFire [0, 0, 2, 0, 0, 0]).map (fun r => decide (1 < r.directionCode)) = some true
    ∧ image.classes.length = 4 := by
  simp only [State.CanTake]
  decide

theorem witness_StandDownReturnsToNormal_queues : fire.QueuesOk := fire_queues

theorem witness_SetpointsAreBuffered_and_StandDownReturnsToNormal :
    fire.CanTake ∧ fire.line.mode = .fire ∧ fire.line.scenario = some scenario
    ∧ (1#8).toNat ≤ 1 ∧ 1 < (2#8).toNat ∧ (normal [idle] readyFeeder).CanTake
    ∧ (normal [idle] readyFeeder).line.mode = .normal ∧ fire.line.duty ≠ [] := by
  simp only [State.CanTake]
  decide

/-- The fans of the fan requests' witnesses. -/
def mixed : State :=
  normal [running .forward .routine, idle, { resting .tripped with restartUsed := false }, queued .reverse .routine]
    { readyFeeder with startingCount := 1, routine := [{ fan := 3, dir := .reverse }] }

theorem witness_FanCommandWritesTheDemand : mixed.CanTake ∧ mixed.line.mode = .normal ∧ mixed.fanCount = 4
    ∧ mixed.fanCount ≤ (4#8).toNat ∧ 2 < (3#8).toNat ∧ (mixed.fan 2).state = .tripped
    ∧ (mixed.fan 0).state.dir? = some .forward ∧ (mixed.fan 1).state = .idle ∧ (mixed.fan 3).state = .queued
    ∧ (mixed.fan 0).demand ≠ .run .reverse .routine ∧ (mixed.fan 1).demand = .none ∧ fire.line.mode = .fire := by
  simp only [State.CanTake]
  decide

theorem grantsOk_of_free (fans : List Fan) : (normal fans readyFeeder).GrantsOk := by
  intro n f hf _ _
  match n with
  | 0 => cases hf; exact ⟨rfl, rfl⟩
  | n + 1 => simp [normal] at hf

/-- An IDLE fan on a READY feeder, with a slot free and with none. -/
theorem witness_FanCommandWritesTheDemand_grants : (normal [idle, idle, idle, idle] readyFeeder).GrantsOk
    ∧ mixed.GrantsOk ∧ mixed.feederOf 1 = some 0 ∧ (mixed.feeders[0]?).map (fun g => g.startingCount) = some 1
    ∧ mixed.slots 0 = 1 ∧ (mixed.fan 1).state = .idle := by
  refine ⟨grantsOk_of_free _, fun n f hf _ hfree => ?_, by decide, by decide, by decide, by decide⟩
  match n with
  | 0 => cases hf; exact absurd hfree (by decide)
  | n + 1 => simp [mixed, normal] at hf

/-- Fan 0 STARTING in the one slot, fans 1 and 2 QUEUED behind it with a class each. -/
def waiting (second third : DemandClass) : State :=
  let entries := fun (c : DemandClass) => (if second = c then [{ fan := 1, dir := .forward : QueueEntry }] else [])
    ++ (if third = c then [{ fan := 2, dir := .reverse : QueueEntry }] else [])
  normal [starting .forward (.confirm 1) .routine, queued .forward second, queued .reverse third, idle]
    { readyFeeder with startingCount := 1, urgent := entries .urgent, routine := entries .routine }

/-- The start queue, its URGENT entries first (R129). -/
def queue (s : State) : List (List (Nat × Direction)) :=
  s.feeders.map (fun f => (f.urgent ++ f.routine).map (fun e => (e.fan, e.dir)))

/-- R130, R131: an entry joins at the end, a changed direction keeps its place, a changed class goes to the end of its
new group, a stop removes the entry from wherever it stands. -/
theorem test_queue_order :
    let s := waiting .routine .routine
    queue (after (.fanCommand [3, 1]) s) = [[(1, .forward), (2, .reverse), (3, .forward)]]
    ∧ queue (after (.fanCommand [1, 2]) s) = [[(1, .reverse), (2, .reverse)]]
    ∧ queue (after (.fanCommand [1, 0]) s) = [[(2, .reverse)]]
    ∧ queue (s.writeDemand 2 (.run .reverse .urgent)) = [[(2, .reverse), (1, .forward)]]
    ∧ queue ((waiting .routine .urgent).writeDemand 1 (.run .forward .urgent)) = [[(2, .reverse), (1, .forward)]] := by
  decide +kernel

/-- R129, R134: a freed slot goes to the head, an URGENT entry before a ROUTINE one. -/
theorem test_head_granted :
    ((after (.fbActive 0) (waiting .routine .routine)).fans.map (fun f => f.state)) =
      [.running .forward, .starting .forward (.ramp 10), .queued, .idle]
    ∧ ((after (.fbActive 0) (waiting .routine .urgent)).fans.map (fun f => f.state)) =
      [.running .forward, .queued, .starting .reverse (.ramp 10), .idle] := by decide +kernel

theorem witness_LockoutIsolatesTheFan : mixed.CanTake ∧ mixed.ModeOk ∧ mixed.line.mode = .normal
    ∧ (mixed.fan 0).lockout = false ∧ (mixed.fan 0).state.isWorking = true ∧ (mixed.fan 2).state.isHolding = true
    ∧ ((normal [{ resting .isolated with lockout := true }] readyFeeder).fan 0).lockout = true := by
  simp only [State.CanTake, State.ModeOk]
  decide

/-- Fans that a RESTORE takes, holding NONE; fan 3 stands in its coast. -/
def faulted : State :=
  normal [{ resting .failed with fb := true }, { resting .isolated with lockout := true }, { idle with expired := true },
    { resting .tripped with coastTimer := 59 }] readyFeeder

theorem witness_RestoreClearsTheFan : faulted.CanTake ∧ faulted.line.mode = .normal
    ∧ (faulted.fan 0).state = .failed ∧ (faulted.fan 1).lockout = true ∧ (faulted.fan 2).expired = true
    ∧ (faulted.fan 3).state = .tripped ∧ (faulted.fan 3).coastTimer < faulted.coastTime 3
    ∧ faulted.coastTime 0 ≤ (faulted.fan 0).coastTimer ∧ (faulted.fan 0).trip = false
    ∧ faulted.onDeadFeeder 0 = false ∧ (faulted.fan 0).fb = true ∧ (faulted.fan 0).run = false
    ∧ faulted.isMember 0 = false ∧ ((after (.restore [0]) faulted).fan 0).stuckTimer = some 3 := by
  simp only [State.CanTake]
  decide +kernel

theorem witness_StartEndsInRunningOrConfirm : starts.events.ask = false ∧ starts.fanCount = 4
    ∧ (starts.fan 0).state = .starting .forward (.confirm 1) ∧ (starts.fan 0).fb = false
    ∧ (starts.fan 1).state = .starting .forward (.ramp 1) ∧ (starts.fan 1).fb = true
    ∧ (starts.fan 2).state = .starting .reverse (.ramp 1) ∧ (starts.fan 2).fb = false
    ∧ starts.feederOf 0 = some 0 ∧ (starts.feeders[0]?).map (fun g => g.state) = some .ready
    ∧ (starts.fan 3).state = .queued := by decide

theorem witness_FaultsEnterTrippedOrFailed : fire.events.ask = false ∧ 3 < fire.fanCount
    ∧ (fire.fan 0).trip = false ∧ (fire.fan 0).state.isWorking = true ∧ (fire.fan 0).state = .running .forward
    ∧ (fire.fan 0).fb = true ∧ fire.isMember 0 = true ∧ (starts.fan 0).state = .starting .forward (.confirm 1)
    ∧ (starts.fan 0).fb = false ∧ (reloadable.fan 2).state.isHolding = true ∧ (reloadable.fan 1).trip = true
    ∧ starts.isMember 0 = false := by decide

theorem witness_StuckRunningEntersFailed_and_FeedbackRunsTheStuckTimer :
    lastSecond.events.ask = false ∧ (lastSecond.fan 2).stuckTimer = some 1
    ∧ (fire.fan 0).stuckTimer = none ∧ (fire.fan 2).fb = false ∧ (fire.fan 2).run = false
    ∧ (fire.fan 2).state ≠ .failed ∧ (fire.fan 1).run = true ∧ (fire.fan 1).fb = false
    ∧ (lastSecond.fan 2).fb = true ∧ (lastSecond.fan 2).state = .isolated := by decide

/-- Isolated fans that hold no demand: ISO active, on a READY feeder, with and without TRIP, and in the coast. -/
def isolated : State :=
  normal [{ resting .isolated with iso := true }, { resting .isolated with iso := true, trip := true },
    { resting .isolated with iso := true, coastTimer := 59 }, { resting .isolated with iso := true, lockout := true }]
    readyFeeder

theorem witness_IsolationMovesTheFan : isolated.events.ask = false ∧ isolated.isMember 0 = false
    ∧ (isolated.fan 0).iso = true ∧ (isolated.fan 0).state = .isolated ∧ (isolated.fan 0).lockout = false
    ∧ isolated.onDeadFeeder 0 = false ∧ (isolated.fan 1).trip = true ∧ (isolated.fan 2).coastTimer < isolated.coastTime 2
    ∧ isolated.coastTime 0 ≤ (isolated.fan 0).coastTimer ∧ (isolated.fan 3).lockout = true
    ∧ (fire.fan 0).iso = false ∧ (fire.fan 0).state.isWorking = true ∧ (faulted.fan 0).state.isHolding = true := by
  decide

theorem witness_CoastEndReleasesTheFan :
    let s := normal [resting .coasting, { resting .coasting with demand := .run .forward .routine }, resting .tripped,
      resting .unpowered] { readyFeeder with state := .hold }
    s.events.ask = false ∧ (s.fan 0).state = .coasting ∧ (s.fan 0).demand = .none ∧ (s.fan 1).state = .coasting
    ∧ (s.fan 1).demand ≠ .none ∧ (s.fan 2).state = .tripped ∧ s.line.mode ≠ .fire ∧ (s.fan 3).state = .unpowered
    ∧ s.onReadyFeeder 3 = false := by decide

/-- UNPOWERED fans whose coasts end on a READY feeder: isolated, tripped, holding a run demand, holding none. -/
theorem witness_CoastEndReleasesTheFan_unpowered :
    let s := normal [{ resting .unpowered with iso := true }, { resting .unpowered with trip := true },
      { resting .unpowered with demand := .run .forward .routine }, resting .unpowered] readyFeeder
    s.events.ask = false ∧ (s.fan 0).state = .unpowered ∧ s.onReadyFeeder 0 = true ∧ (s.fan 0).run = false
    ∧ s.isMember 0 = false ∧ (s.fan 0).iso = true ∧ (s.fan 1).trip = true ∧ (s.fan 2).demand ≠ .none
    ∧ (s.fan 3).demand = .none
    ∧ (after (.coastTimerExpiry 0) s).fans.map (fun f => f.state) = [.isolated, .unpowered, .unpowered, .unpowered]
    ∧ (after (.coastTimerExpiry 2) s).fans.map (fun f => f.state) =
      [.unpowered, .unpowered, .starting .forward (.ramp 10), .unpowered] := by decide +kernel

/-- `fire` with fan 2 TRIPPED, its coast ended, TRIP still active or not. -/
def trippedInFire (trip : Bool) : State := fire.modifyFan 2 (fun _ => { resting .tripped with trip := trip })

theorem witness_AutomaticRestartIsOnce : (trippedInFire true).isMember 2 = false
    ∧ (trippedInFire true).line.mode = .fire ∧ ((trippedInFire true).fan 2).state = .tripped
    ∧ ((trippedInFire true).fan 2).restartUsed = false ∧ ((trippedInFire true).fan 2).trip = true
    ∧ (trippedInFire true).coastTime 2 ≤ ((trippedInFire true).fan 2).coastTimer
    ∧ ((trippedInFire true).fan 2).run = false ∧ (trippedInFire true).events.ask = false
    ∧ ((trippedInFire false).fan 2).trip = false
    ∧ ((trippedInFire true).fan 2).demand = .none := by decide

/-- The line with its feeder in a state, its inputs as given. -/
def feederIn (x : FeederState) (timer : Option Nat) (avail vlow : Bool) : State :=
  { normal [idle, resting .unpowered, { resting .unpowered with coastTimer := 59 }, idle]
      { readyFeeder with state := x, settleTimer := timer } with
    feederInputs := List.replicate 4 { avail := avail, vlow := vlow } }

theorem witness_FeederTransitionsFollowTheTable : (feederIn .dead none false true).feederState 0 = some .dead
    ∧ ((feederIn .dead none false true).inputs 0).avail = false
    ∧ ((feederIn .dead none false false).inputs 0).vlow = false
    ∧ (feederIn .settling (some 1) true false).feederState 0 = some .settling
    ∧ (feederIn .ready none true false).feederState 0 = some .ready
    ∧ (feederIn .hold none true true).feederState 0 = some .hold ∧ ((feederIn .hold none true true).inputs 0).vlow = true
    ∧ (feederIn .ready none true false).feederState 3 = none ∧ (feederIn .ready none true false).events.ask = false
    ∧ (feederIn .ready none true false).events.levels.feederHold = false := by decide

theorem witness_DeadFeederTakesItsFans : (fire.inputs 0).avail = true ∧ fire.events.ask = false
    ∧ (fire.feeders[0]?).map (fun g => g.state) = some .ready ∧ fire.feederOf 3 = some 0 ∧ 3 < fire.fanCount
    ∧ (fire.fan 3).state.isWorking = true ∧ fire.feederState 3 = none ∧ (fire.inputs 3).avail = true
    ∧ (isolated.fan 0).state = .isolated := by decide

theorem witness_SettledFeederGrantsItsSlots : (feederIn .settling (some 1) true false).RecordsOk
    ∧ (feederIn .settling (some 1) true false).feederState 0 = some .settling
    ∧ (∀ i, (feederIn .settling (some 1) true false).isMember i = false)
    ∧ (feederIn .settling (some 1) true false).coastTime 1 ≤ ((feederIn .settling (some 1) true false).fan 1).coastTimer
    ∧ ((feederIn .settling (some 1) true false).fan 1).state = .unpowered := by
  refine ⟨⟨?_, ?_⟩, rfl, fun _ => rfl, by decide, rfl⟩
  · rintro m ⟨⟩
    exact ⟨rfl, rfl, rfl, fun f hf => by
      simp only [image, List.mem_cons, List.not_mem_nil, or_false] at hf
      rcases hf with rfl | rfl | rfl | rfl <;> decide⟩
  · rintro ⟨⟩

/-- A settling feeder whose UNPOWERED fans are isolated, tripped, holding a run demand, and still in their coast. -/
def settling : State :=
  { normal [{ resting .unpowered with iso := true }, { resting .unpowered with trip := true },
      { resting .unpowered with demand := .run .forward .routine }, { resting .unpowered with coastTimer := 59 }]
      { readyFeeder with state := .settling, settleTimer := some 1 } with
    events := { State.reset.events with levels := { Levels.allFalse with feederHold := true } } }

theorem settling_fans {P : Nat → Fan → Prop} (h0 : P 0 { resting .unpowered with iso := true })
    (h1 : P 1 { resting .unpowered with trip := true })
    (h2 : P 2 { resting .unpowered with demand := .run .forward .routine })
    (h3 : P 3 { resting .unpowered with coastTimer := 59 }) (hn : ∀ n, P (n + 4) Fan.afterReset) :
    ∀ i, P i (settling.fan i)
  | 0 => h0
  | 1 => h1
  | 2 => h2
  | 3 => h3
  | n + 4 => hn n

theorem witness_SettledFeederGrantsItsSlots_places : settling.RecordsOk ∧ (∀ i, settling.isMember i = false)
    ∧ settling.feederState 0 = some .settling ∧ settling.events.ask = false
    ∧ (∀ i, i < 4 → settling.feederOf i = some 0 ∧ (settling.fan i).state = .unpowered)
    ∧ settling.coastTime 2 ≤ (settling.fan 2).coastTimer ∧ (settling.fan 3).coastTimer < settling.coastTime 3
    ∧ (after (.settleTimerExpiry 0) settling).fans.map (fun f => f.state) =
      [.isolated, .tripped, .starting .forward (.ramp 10), .unpowered]
    ∧ (after (.settleTimerExpiry 0) settling).events.levels.feederHold = false := by
  refine ⟨⟨fun m hm => ?_, ?_⟩, fun _ => rfl, rfl, rfl, by decide, by decide, by decide, by decide +kernel,
    by decide +kernel⟩
  · cases hm
    exact fire_records.1 image rfl
  · rintro ⟨⟩

theorem witness_SettledFeederGrantsItsSlots_queues : settling.QueuesOk := by
  have h := queuesOk_of_rest settling.fans { readyFeeder with state := .settling, settleTimer := some 1 } rfl rfl rfl
    (settling_fans
    (P := fun _ f => f.state.dir? = none ∧ f.state ≠ .queued ∧ (f.state = .idle → f.demand = .none))
    ⟨rfl, by decide, by rintro ⟨⟩⟩ ⟨rfl, by decide, by rintro ⟨⟩⟩ ⟨rfl, by decide, by rintro ⟨⟩⟩
    ⟨rfl, by decide, by rintro ⟨⟩⟩ (fun _ => ⟨rfl, by decide, by rintro ⟨⟩⟩))
  exact ⟨h.running, h.queued, h.entries, h.once, h.idle, h.starting, h.stopped⟩

theorem witness_LinesActInTheRunningWindow_and_WindowEndTakesTheSnapshot :
    fire.air.windowTimer = some 0 ∧ fire.image = some image ∧ fire.events.ask = false
    ∧ fire.air.channels[0]? = some channel ∧ image.channels[0]? = some { chainage := 900, scale := 100, vmax := 1500 }
    ∧ fire.line.mode = .fire ∧ (normal [idle] readyFeeder).line.mode = .normal ∧ fire.line.counting = true
    ∧ fire.line.windowCount + 1 = image.tunnel.windowsPerPeriod := by decide

theorem witness_BoundaryInFireTakesItsSteps :
    let s : State := { fire with line := { fire.line with boundaryDue := some (some 269) } }
    s.events.ask = false ∧ s.image = some image ∧ s.line.mode = .fire ∧ s.line.scenario = some scenario
    ∧ s.line.overtaken = false ∧ s.line.counting = true
    ∧ ({ fire with line := { fire.line with overtaken := true } } : State).line.overtaken = true
    ∧ s.line.boundaryDue = some (some 269) ∧ image.classes[scenario.fireClass]? = some fireClass
    ∧ s.fanCount = image.fans.length ∧ (269 : Int) - scenario.target < -image.tunnel.trimBand ∧ scenario.lowCount = 0
    ∧ (normal [idle] readyFeeder).line.mode = .normal ∧ (normal [idle] readyFeeder).line.boundaryDue = none := by decide

theorem witness_EveryChainageHasItsPosition :
    scenario.windowLow ≤ scenario.chainage ∧ scenario.chainage ≤ scenario.windowHigh
    ∧ scenario.direction = .forward ∧ (2299 < scenario.windowLow ∧ 2300 = scenario.windowLow ∧ 2399 < scenario.chainage
      ∧ 2900 = scenario.windowHigh) := by decide

/-- The tunnel and the fan with every figure at the end of its range. -/
def extremes : (Tunnel × FanStatic) × (Tunnel × FanStatic) :=
  (({ tunnel with crossSection := 200, baseLoss := 0, trainLoss := 0, density := 1000, jetVelocity := 200,
                  windAllowance := 0, smokeDerating := 50 },
    { fanAt 0 with ratedThrust := 100, installation := 50, reverseRatio := 50 }),
   ({ tunnel with crossSection := 1500, baseLoss := 10000, trainLoss := 1000, density := 1300, jetVelocity := 450,
                  windAllowance := 200, smokeDerating := 100 },
    { fanAt 0 with ratedThrust := 4000, installation := 100, reverseRatio := 100 }))

theorem witness_RequiredThrustStages_and_CountedThrustStages :
    (200 ≤ extremes.1.1.crossSection ∧ extremes.2.1.crossSection ≤ 1500)
    ∧ extremes.2.1.baseLoss ≤ 10000 ∧ extremes.2.1.trainLoss ≤ 1000
    ∧ (1000 ≤ extremes.1.1.density ∧ extremes.2.1.density ≤ 1300) ∧ extremes.2.1.windAllowance ≤ 200
    ∧ (200 ≤ extremes.1.1.jetVelocity ∧ extremes.2.1.jetVelocity ≤ 450)
    ∧ (50 ≤ extremes.1.1.smokeDerating ∧ extremes.2.1.smokeDerating ≤ 100)
    ∧ (100 ≤ extremes.1.2.ratedThrust ∧ extremes.2.2.ratedThrust ≤ 4000)
    ∧ (50 ≤ extremes.1.2.installation ∧ extremes.2.2.installation ≤ 100)
    ∧ (50 ≤ extremes.1.2.reverseRatio ∧ extremes.2.2.reverseRatio ≤ 100)
    ∧ requiredThrust extremes.1.1 0 100 0 = 0 ∧ requiredThrust extremes.2.1 500 600 1000 = 807000
    ∧ countedThrust extremes.1.1 extremes.1.2 600 .reverse .hot false = 8
    ∧ countedThrust extremes.2.1 extremes.2.2 100 .forward .cold false = 3908 := by decide +kernel

/-- Two plans for the preference list's witness: the second covers the fire, and is OPEN. -/
def plans : List Plan :=
  [{ direction := .reverse, lo := 0, hi := 4000, isOpen := false,
     descriptors := [{ first := 3, count := 0, down := true }] },
   { direction := .forward, lo := 2400, hi := 2400, isOpen := true,
     descriptors := [{ first := 2, count := 2, down := true }] }]

theorem witness_PreferenceListHoldsUsableFansOnce_and_DefaultOrderIsFarthestFirst :
    scenario.windowLow ≤ scenario.chainage ∧ scenario.chainage ≤ scenario.windowHigh
    ∧ (∀ p ∈ plans, ∀ x ∈ p.descriptors, x.first < [200, 1400, 2600, 3800].length)
    ∧ resolvePreference scenario plans [200, 1400, 2600, 3800] = (some 1, [1, 0, 3])
    ∧ resolvePreference scenario [] [200, 1400, 2600, 3800] = (none, [0, 1, 3]) := by decide

/-- A CLOSED plan: the walk up from fan 3 to the end of the table, the one down from fan 1 cut off at fan 0. -/
theorem witness_PreferenceListHoldsUsableFansOnce_closed :
    let walks : List Descriptor := [{ first := 3, count := 0, down := false }, { first := 1, count := 64, down := true }]
    let closed : List Plan := [{ direction := .forward, lo := 0, hi := 2400, isOpen := false, descriptors := walks }]
    (∀ p ∈ closed, ∀ x ∈ p.descriptors, x.first < [200, 1400, 2600, 3800].length)
    ∧ resolvePreference scenario closed [200, 1400, 2600, 3800] = (some 0, [3, 1, 0]) := by decide

theorem witness_EvaluationMeetsTheNeedOrReportsShortfall :
    fire.DutyOk ∧ fire.line.scenario = some scenario ∧ scenario.fullThrust = false
    ∧ 0 ≤ scenario.trim :=
  ⟨fire_duty, rfl, rfl, by decide⟩

/-- `fire` with t as given; its three members fall short of the required thrust, so k is 3. -/
def trimmed (t : Int) : State := fire.modifyScenario (fun sc => { sc with trim := t })

/-- A line whose fan 0 is the one member, with the fans 1 and 3 to join, and a required thrust of 1248 N. -/
def light : State :=
  { fire with
    image := some { image with tunnel := { tunnel with crossSection := 200, baseLoss := 0, windAllowance := 0 } }
    line := { fire.line with duty := [{ fan := 0, reason := .initial, counted := 1158, expired := false }] } }

/-- The duty set that an evaluation leaves, with the reasons. -/
def evaluated (s : State) : List (Nat × JoinReason) := s.evaluate.line.duty.map (fun x => (x.fan, x.reason))

/-- R60 to R64: with t at -8 all but one are released; with t at 0 all stay; the second fan meets the need and one more
joins for redundancy. -/
theorem witness_EvaluationSizesTheDutySet : (trimmed (-8)).DutyOk ∧ (trimmed 0).DutyOk ∧ light.DutyOk
    ∧ (trimmed (-8)).image = some image ∧ (trimmed 0).image = some image
    ∧ light.line.scenario = some scenario ∧ scenario.fullThrust = false
    ∧ evaluated (trimmed (-8)) = [(0, .initial)]
    ∧ evaluated (trimmed 0) = [(0, .initial), (1, .need), (3, .need)]
    ∧ evaluated light = [(0, .initial), (1, .need), (3, .redundant)] :=
  ⟨⟨by decide, by rintro sc ⟨⟩; decide⟩, ⟨by decide, by rintro sc ⟨⟩; decide⟩, ⟨by decide, by rintro sc ⟨⟩; decide⟩, rfl, rfl,
    rfl, rfl, by decide +kernel, by decide +kernel, by decide +kernel⟩

/-- The duty set, with the reasons. -/
def members (s : State) : List (Nat × JoinReason) := s.line.duty.map (fun x => (x.fan, x.reason))

/-- R69: the evaluation that follows a loss replaces the member by fans 1 and 3, whatever took it; when the feeder of all
four fans dies, a fan that has joined for another is lost in its turn. -/
theorem witness_member_loss_is_replaced :
    let t := lostToTrip false 0 light
    light.isMember 0 = true ∧ members t = [(1, .need), (3, .need)] ∧ (t.fan 0).demand = .none
    ∧ members (lostToIso false 0 light) = members t ∧ members (lostToStop false 0 light) = members t
    ∧ members (light.loseFan 0 .failed (some .stuckRunning) false) = members t
    ∧ members (lostToDeath false 0 light) = [] := by decide +kernel

/-- `light` with fan 0 lost and the report of its loss waiting. -/
def unreported : State := lostToTrip true 0 light

/-- R57, R69, R89: until the report is taken a reply shows the lost fan a member, in its failed state; a boundary taken
first sweeps it and holds the trim, and the report that follows changes nothing but that it no longer waits. -/
theorem test_boundary_before_the_report :
    let t := after .controlPeriodBoundary { unreported with line := { unreported.line with boundaryDue := some none } }
    (unreported.fan 0).state = .tripped ∧ (unreported.fan 0).run = false ∧ unreported.line.reports = [0]
    ∧ (after (.getDuty []) unreported).link.tx =
      unreported.link.tx ++ [.duty [{ fan := 0, reason := .initial, counted := 1158, expired := false }]]
    ∧ members t = [(1, .need), (3, .need)] ∧ t.line.scenario.map (fun sc => sc.trim) = some 0
    ∧ { t with pending := [] }.idle = { t with pending := [], line := { t.line with reports := [] } } := by
  decide +kernel

/-- R69: a report taken removes the member and replaces it, as one taken within the command does. -/
theorem witness_IdleStepTakesTheReport : { unreported with pending := [] }.line.reports = 0 :: []
    ∧ { unreported with pending := [] }.isMember 0 = true
    ∧ { unreported with pending := [] }.idle.line = (lostToTrip false 0 light).line
    ∧ { unreported with pending := [] }.idle.fans = (lostToTrip false 0 light).fans := by decide +kernel

/-- The report of fan 0 waits while its TRIP clears and it is isolated; a RESTORE or the isolation's end then places it,
once as a loss. When its feeder dies only the last of the fans, fan 3, has its report wait (R111). -/
theorem witness_waiting_report_clauses :
    let s := after (.isoActive 0) (after (.tripInactive 0) unreported)
    let t := after (.restore [0]) s
    s.link.tx.length < 8 ∧ s.events.ask = false ∧ s.line.mode = .fire ∧ s.isMember 0 = true
    ∧ (s.fan 0).state = .tripped ∧ (s.fan 0).iso = true ∧ (s.fan 0).trip = false
    ∧ (t.fan 0).state = .isolated ∧ t.isMember 0 = false ∧ members t = [(1, .need), (3, .need)]
    ∧ (lostToDeath true 0 light).line.reports = [3]
    ∧ members (lostToDeath true 0 light) = [(3, .need)] := by decide +kernel

/-- R77: the boundary resizes the duty set, and clears membership changed before it (R87); a member whose exposure comes
to its rating of 1800 s expires before the evaluation (R72) and stays a member. -/
theorem test_boundary_evaluates :
    let due := fun (s : State) => { s with line := { s.line with boundaryDue := some none } }
    let first := after .controlPeriodBoundary (due light)
    let second := after .controlPeriodBoundary (due first)
    let worn := after .controlPeriodBoundary (due (fire.modifyFan 3 (fun f => { f with exposure := 1770 })))
    members first = [(0, .initial), (1, .need), (3, .redundant)]
    ∧ first.line.scenario.map (fun sc => sc.membershipChanged) = some true
    ∧ members second = members first ∧ second.line.scenario.map (fun sc => sc.membershipChanged) = some false
    ∧ worn.line.duty.map (fun x => (x.fan, x.expired, x.counted)) =
      [(0, false, 1158), (1, false, 1158), (3, true, 0)] := by decide +kernel

theorem witness_Evaluation_under_full_thrust :
    let s := fire.modifyScenario (fun sc => { sc with fullThrust := true })
    s.DutyOk ∧ s.line.scenario = some { scenario with fullThrust := true } :=
  ⟨⟨by decide, by rintro sc ⟨⟩; decide⟩, rfl⟩

end Sys2Proof.Tests
end

section
/-! The thrust balance (Chapter 2): each stage's rounding and range from those of its figures, then the two
statements. -/

namespace Sys2Proof.Machine

/-! ### Roundings -/

/-- Division rounded up is the least multiple of the divisor that reaches the dividend (spec/00 section 4.3). -/
theorem ceilDiv_bounds (a b : Nat) (hb : 0 < b) : a ≤ ceilDiv a b * b ∧ ceilDiv a b * b < a + b := by
  have hdiv : b * ((a + b - 1) / b) + (a + b - 1) % b = a + b - 1 := Nat.div_add_mod _ _
  have hmod : (a + b - 1) % b < b := Nat.mod_lt _ hb
  rw [ceilDiv, Nat.mul_comm]
  omega

/-- A percentage of at most 100 does not raise a figure. -/
theorem percent_le (n p : Nat) (hp : p ≤ 100) : n * p / 100 ≤ n := by
  have : n * p ≤ n * 100 := Nat.mul_le_mul_left n hp
  omega

/-! ### The stages of the required thrust (R22 to R24) -/

/-- Stage 1: the square product and the dynamic pressure (R22). -/
theorem dynamicPressure_range {density target : Nat} (hd : 1000 ≤ density ∧ density ≤ 1300)
    (ht : 100 ≤ target ∧ target ≤ 600) :
    density * target ^ 2 ≤ 468000000 ∧ 500 ≤ dynamicPressure density target ∧
      dynamicPressure density target ≤ 23400 := by
  have lower : 1000 * 100 ^ 2 ≤ density * target ^ 2 := Nat.mul_le_mul hd.1 (Nat.pow_le_pow_left ht.1 2)
  have upper : density * target ^ 2 ≤ 1300 * 600 ^ 2 := Nat.mul_le_mul hd.2 (Nat.pow_le_pow_left ht.2 2)
  unfold dynamicPressure
  omega

/-- Stage 2: the train's part of the loss factor, and the whole (R22). -/
theorem lossFactor_range {base train trainLength : Nat} (hb : base ≤ 10000) (ht : train ≤ 1000)
    (hl : trainLength ≤ 1000) :
    train * trainLength / 100 ≤ 10000 ∧ lossFactor base train trainLength ≤ 20000 := by
  have : train * trainLength ≤ 1000 * 1000 := Nat.mul_le_mul ht hl
  unfold lossFactor
  omega

/-- Stage 3: the resistance pressure (R23). -/
theorem resistancePressure_le {loss pressure : Nat} (hl : loss ≤ 20000) (hp : pressure ≤ 23400) :
    resistancePressure loss pressure ≤ 4680000 := by
  have : loss * pressure ≤ 20000 * 23400 := Nat.mul_le_mul hl hp
  unfold resistancePressure
  omega

/-- With the dynamic pressure of stage 1 the resistance vanishes only with the loss factor (R23). -/
theorem resistancePressure_eq_zero_iff {loss pressure : Nat} (hp : 500 ≤ pressure) :
    resistancePressure loss pressure = 0 ↔ loss = 0 := by
  constructor
  · intro h
    have : loss * 500 ≤ loss * pressure := Nat.mul_le_mul_left loss hp
    unfold resistancePressure at h
    omega
  · rintro rfl
    simp [resistancePressure]

/-- Stage 5 rounds the product up (R24). -/
theorem thrustOfPressure_bounds (total area : Nat) : total * area ≤ 10000 * thrustOfPressure total area ∧
    10000 * thrustOfPressure total area < total * area + 10000 := by
  have := ceilDiv_bounds (total * area) 10000 (by decide)
  unfold thrustOfPressure
  omega

/-- Stage 5 gives 0 for a total pressure of 0 alone (R24). -/
theorem thrustOfPressure_eq_zero_iff {total area : Nat} (ha : 0 < area) :
    thrustOfPressure total area = 0 ↔ total = 0 := by
  have hb := thrustOfPressure_bounds total area
  constructor
  · intro h
    have hzero : total * area = 0 := by omega
    exact (Nat.mul_eq_zero.mp hzero).resolve_right (by omega)
  · rintro rfl
    omega

/-- Settles O55: each stage in its range, stage by stage. -/
theorem requiredThrustStages : Obligations.RequiredThrustStages := by
  intro t firePressure target trainLength harea hbase htrain hdensity hwind hfire htarget hlength
  obtain ⟨hsquare, hq⟩ := dynamicPressure_range hdensity htarget
  obtain ⟨hpart, hkh⟩ := lossFactor_range hbase htrain hlength
  set q := dynamicPressure t.density target
  set kh := lossFactor t.baseLoss t.trainLoss trainLength
  set pr := resistancePressure kh q
  set ptot := totalPressure pr firePressure t.windAllowance
  have hpr : pr ≤ 4680000 := resistancePressure_le hkh hq.2
  have hprzero : pr = 0 ↔ kh = 0 := resistancePressure_eq_zero_iff hq.1
  have hsum : ptot = pr + 1000 * firePressure + 1000 * t.windAllowance := rfl
  have hptot : ptot ≤ 5380000 := by omega
  have hproduct : ptot * t.crossSection ≤ 5380000 * 1500 := Nat.mul_le_mul hptot harea.2
  have hrequired : requiredThrust t firePressure target trainLength = thrustOfPressure ptot t.crossSection := rfl
  obtain ⟨hup, hdown⟩ := thrustOfPressure_bounds ptot t.crossSection
  have hzero : thrustOfPressure ptot t.crossSection = 0 ↔ ptot = 0 := thrustOfPressure_eq_zero_iff (by omega)
  rw [hrequired]
  exact ⟨q, kh, pr, ptot, rfl, hq, hsquare, hpart, rfl, hkh, rfl, hpr, hprzero.mpr, hsum, hptot, hproduct, hdown, hup,
    by omega, hzero, by omega⟩

/-! ### The stages of the counted thrust (R26 to R28) -/

/-- Stage 1: the installed thrust (R26). -/
theorem installedThrust_range {rated installation : Nat} (hr : 100 ≤ rated ∧ rated ≤ 4000)
    (hi : 50 ≤ installation ∧ installation ≤ 100) :
    50 ≤ installedThrust rated installation ∧ installedThrust rated installation ≤ 4000 ∧
      installedThrust rated installation ≤ rated := by
  have lower : 100 * 50 ≤ rated * installation := Nat.mul_le_mul hr.1 hi.1
  have upper : rated * installation / 100 ≤ rated := percent_le rated installation hi.2
  unfold installedThrust
  omega

/-- Stage 2: the quotient of the slip (R26). -/
theorem slipQuotient_range {target jet : Nat} (ht : 100 ≤ target ∧ target ≤ 600) (hj : 200 ≤ jet ∧ jet ≤ 450) :
    23 ≤ ceilDiv (target * 100) jet ∧ ceilDiv (target * 100) jet ≤ 300 := by
  obtain ⟨hup, hdown⟩ := ceilDiv_bounds (target * 100) jet (by omega)
  have lower : ceilDiv (target * 100) jet * jet ≤ ceilDiv (target * 100) jet * 450 := Nat.mul_le_mul_left _ hj.2
  refine ⟨by omega, ?_⟩
  by_contra hlarge
  have : 301 * jet ≤ ceilDiv (target * 100) jet * jet := Nat.mul_le_mul_right jet (by omega)
  omega

/-- Stage 3: the slip-reduced thrust (R27). -/
theorem slipThrust_range {installed slip : Nat} (ha : 50 ≤ installed ∧ installed ≤ 4000)
    (hs : 700 ≤ slip ∧ slip ≤ 977) :
    35 ≤ slipThrust installed slip ∧ slipThrust installed slip ≤ 3908 ∧ slipThrust installed slip ≤ installed := by
  have lower : 50 * 700 ≤ installed * slip := Nat.mul_le_mul ha.1 hs.1
  have upper : installed * slip ≤ installed * 977 := Nat.mul_le_mul_left installed hs.2
  unfold slipThrust
  omega

/-- Stage 4: the direction stage (R27). -/
theorem directionThrust_range {b reverseRatio : Nat} (d primary : Direction) (hb : 35 ≤ b)
    (hr : 50 ≤ reverseRatio ∧ reverseRatio ≤ 100) :
    17 ≤ directionThrust b d primary reverseRatio ∧ directionThrust b d primary reverseRatio ≤ b := by
  have lower : 35 * 50 ≤ b * reverseRatio := Nat.mul_le_mul hb hr.1
  have upper : b * reverseRatio / 100 ≤ b := percent_le b reverseRatio hr.2
  unfold directionThrust
  split <;> omega

/-- Stage 5: the smoke stage (R27). -/
theorem smokeThrust_range {c derating : Nat} (side : Side) (hc : 17 ≤ c) (hd : 50 ≤ derating ∧ derating ≤ 100) :
    8 ≤ smokeThrust c side derating ∧ smokeThrust c side derating ≤ c := by
  have lower : 17 * 50 ≤ c * derating := Nat.mul_le_mul hc hd.1
  have upper : c * derating / 100 ≤ c := percent_le c derating hd.2
  unfold smokeThrust
  split <;> omega

/-- Settles O56: each stage in its range, stage by stage. -/
theorem countedThrustStages : Obligations.CountedThrustStages := by
  intro t f target d side hjet hsmoke hrated hinstallation hreverse htarget
  refine ⟨?_, rfl⟩
  obtain ⟨ha, ha', harated⟩ := installedThrust_range hrated hinstallation
  have hquotient := slipQuotient_range htarget hjet
  obtain ⟨hup, hdown⟩ := ceilDiv_bounds (target * 100) t.jetVelocity (by omega)
  set a := installedThrust f.ratedThrust f.installation
  set quotient := ceilDiv (target * 100) t.jetVelocity
  set slip := slipOf target t.jetVelocity
  have hslip : slip + quotient = 1000 := Nat.sub_add_cancel (by omega)
  obtain ⟨hb, hb', hba⟩ := slipThrust_range ⟨ha, ha'⟩ (show 700 ≤ slip ∧ slip ≤ 977 by omega)
  set b := slipThrust a slip
  obtain ⟨hc, hcb⟩ := directionThrust_range d f.primary hb hreverse
  set c := directionThrust b d f.primary f.reverseRatio
  obtain ⟨he, hec⟩ := smokeThrust_range side hc hsmoke
  exact ⟨a, quotient, slip, b, c, smokeThrust c side t.smokeDerating, rfl, ⟨ha, ha'⟩, hup, hdown, hquotient, hslip,
    by omega, rfl, ⟨hb, hb'⟩, rfl, ⟨hc, by omega⟩, rfl, ⟨he, by omega⟩, by omega, rfl⟩

end Sys2Proof.Machine
end

section
/-! The frames sent (Chapter 9): the layout of a frame, the records byte by byte against the tables of spec/09 section
9.6, and the statement about FRAME_SENT. -/

namespace Sys2Proof.Machine

/-! ### Fields -/

/-- A two-byte field reads back as the number modulo 65,536 (R159). -/
theorem beNat_byte2 (n : Nat) : beNat (byte2 n) = n % 65536 := by
  simp only [byte2, beNat, BitVec.toNat_ofNat, List.length_cons, List.length_nil]
  omega

/-- A one-byte signed field holds the number modulo 256: two's complement (spec/09 section 9.6). -/
theorem byte1s_eq (z : Int) : byte1s z = byte1 (z % 256).toNat := by
  simp [byte1s, BitVec.toNat_ofInt]

/-- A two-byte signed field holds the number modulo 65,536: two's complement (spec/09 section 9.6). -/
theorem byte2s_eq (z : Int) : byte2s z = byte2 (z % 65536).toNat := by
  simp [byte2s, BitVec.toNat_ofInt]

/-- Fields of one byte each, one after another, are the bytes of their codes. -/
theorem flatMap_byte1 {α : Type} (code : α → Nat) (l : List α) :
    l.flatMap (fun x => byte1 (code x)) = l.map (fun x => BitVec.ofNat 8 (code x)) :=
  List.flatMap_pure_eq_map _ l

/-! ### The frame -/

/-- A frame's start byte, LEN, type, payload and check (R159, R161). -/
theorem Reply.frame_layout (r : Reply) : ∃ len type payload check : List Byte,
    r.frame = [0xA5] ++ len ++ type ++ payload ++ check ∧ len.length = 2 ∧ type = [BitVec.ofNat 8 r.typeCode] ∧
      payload = r.payload ∧ check.length = 2 ∧ beNat len = (r.payload.length + 1) % 65536 ∧
      beNat check = (crc16 (len ++ type ++ payload)).toNat := by
  refine ⟨byte2 (r.payload.length + 1), [BitVec.ofNat 8 r.typeCode], r.payload,
    byte2 (crc16 (frameBody (BitVec.ofNat 8 r.typeCode) r.payload)).toNat, ?_, rfl, rfl, rfl, rfl, beNat_byte2 _, ?_⟩
  · simp [Reply.frame, frameBytes, frameBody]
  · rw [beNat_byte2, Nat.mod_eq_of_lt (BitVec.isLt _)]
    simp [frameBody]

/-- FRAME_SENT with a record at the front of the transmit queue (R165). -/
theorem exec_frameSent_cons (s : State) (r : Reply) (rest : List Reply) (h : s.link.tx = r :: rest) :
    exec .frameSent s = .next { s with link := { s.link with tx := rest, lastSent := r.frame } } := by
  simp [exec, execFrameSent, h]

/-- FRAME_SENT with nothing queued. -/
theorem exec_frameSent_nil (s : State) (h : s.link.tx = []) : exec .frameSent s = .next s := by
  simp [exec, execFrameSent, h]

/-! ### The records -/

/-- Settles O24: the frame by its layout, each record by its fields and codes. -/
theorem frameSentLeavesTheQueue : Obligations.FrameSentLeavesTheQueue := by
  refine ⟨fun s => ⟨fun r rest h => ⟨_, exec_frameSent_cons s r rest h, rfl, r.frame_layout, rfl⟩,
    exec_frameSent_nil s⟩, ?_⟩
  intro u8 u16 u32 i8 i16 flag optional direction fanState feederState demandClass mode loadFault pending demand running
    lastFault reason quality side refusal
  have hu8 : u8 = byte1 := rfl
  have hu16 : u16 = byte2 := rfl
  have hu32 : u32 = byte4 := rfl
  have hi8 : ∀ z, byte1s z = i8 z := byte1s_eq
  have hi16 : byte2s = i16 := funext byte2s_eq
  have hflag : ∀ b, byteFlag b = flag b := by intro b; cases b <;> rfl
  have hoptional : ∀ {α : Type} (enc : α → List Byte) (o : Option α), byteOption enc o = optional (o.map enc) := by
    intro α enc o; cases o <;> rfl
  have hdirection : ∀ d : Direction, byte1 d.code = [direction d] := by intro d; cases d <;> rfl
  have hfanState : ∀ f : FanState, BitVec.ofNat 8 f.code = fanState f := by intro f; cases f <;> rfl
  have hfeederState : ∀ f : FeederState, BitVec.ofNat 8 f.code = feederState f := by intro f; cases f <;> rfl
  have hclass : ∀ c : DemandClass, byte1 c.code = [demandClass c] := by intro c; cases c <;> rfl
  have hmode : ∀ m : LineMode, byte1 m.code = [mode m] := by intro m; cases m <;> rfl
  have hloadFault : ∀ x : LoadFault, byte1 x.code = [loadFault x] := by intro x; cases x <;> rfl
  have hpending : ∀ x, byte1 (pendingFullCode x) = [pending x] := by rintro (_ | _ | _) <;> rfl
  have hdemand : ∀ x : Demand, byte1 x.code ++ byte1 x.classCode = demand x := by
    rintro (_ | ⟨_ | _, _ | _⟩) <;> rfl
  have hrunning : ∀ f : FanState, byteOption (fun d => byte1 d.code) f.dir? ++
      byteOption (fun p => byte1 p.code) f.phase? = running f := by
    rintro (_ | _ | ⟨_ | _, _ | _⟩ | ⟨_ | _⟩ | _ | _ | _ | _ | _) <;> rfl
  have hlastFault : ∀ x : LastFault, byte1 x.code = [lastFault x] := by intro x; cases x <;> rfl
  have hreason : ∀ x : JoinReason, byte1 x.code = [reason x] := by intro x; cases x <;> rfl
  have hquality : ∀ x : Quality, byte1 x.code = [quality x] := by intro x; cases x <;> rfl
  have hside : ∀ x, byte1 (sideCode x) = [side x] := by rintro (_ | _ | _ | _) <;> rfl
  have hrefusal : ∀ x : RefuseReason, byte1 x.code = [refusal x] := by intro x; cases x <;> rfl
  clear_value u8 u16 u32 i8 i16 flag optional direction fanState feederState demandClass mode loadFault pending demand
    running lastFault reason quality side refusal
  subst hu8 hu16 hu32 hi16
  refine ⟨fun image => ⟨rfl, ?_⟩, fun r => ⟨rfl, ?_⟩, fun r => ⟨rfl, ?_⟩, fun states => ⟨rfl, ?_⟩,
    fun members => ⟨rfl, ?_⟩, fun r => ⟨rfl, ?_⟩, fun vm channels => ⟨rfl, ?_⟩, fun set => ⟨rfl, rfl⟩, rfl,
    fun type => ⟨rfl, rfl⟩, fun type why => ⟨rfl, ?_⟩, rfl, rfl⟩
  · -- IDENT
    simp only [Reply.payload, hoptional, Option.map_map]
    rfl
  · -- STATUS
    have hreport : ScenarioReport.bytes = fun x => byte2 x.chainage ++ [direction x.direction] ++ byte1 x.fireClass ++
      byte2 x.trainLength ++ byte2 x.target ++ optional (x.pendingTarget.map byte2) ++ flag x.fullThrust ++
      [pending x.pendingFullThrust] ++ byte2 x.windowLow ++ byte2 x.windowHigh ++ byte1 (x.plan.getD 0xFF) ++
      byte1 x.lowCount ++ byte1 x.highCount ++ byte1 x.preference.length ++
      x.preference.map (fun i => BitVec.ofNat 8 i) := by
      funext x
      simp only [ScenarioReport.bytes, hoptional, hdirection, hflag, hpending]
      exact congrArg _ (flatMap_byte1 (fun i => i) x.preference)
    simp only [Reply.payload, StatusReply.bytes, hreport, hoptional, hmode, hloadFault, hflag, hi8, flatMap_byte1,
      hfeederState]
  · -- FAN
    have hstate : byte1 r.state.code = [fanState r.state] := by rw [byte1, hfanState]
    simp only [Reply.payload]
    unfold FanReply.bytes
    simp only [← hdemand, ← hrunning]
    simp only [hdirection, hstate, hflag, hlastFault, hoptional, List.append_assoc]
  · -- FAN_TABLE
    simp only [Reply.payload, flatMap_byte1, hfanState]
  · -- DUTY
    refine ⟨_, congrArg (byte1 members.length ++ ·) List.flatMap_def, by simp, fun n x hx => ?_⟩
    simp [List.getElem?_zipIdx, hx, hreason, hflag]
  · -- QUEUE
    have hstate : byte1 r.state.code = [feederState r.state] := by rw [byte1, hfeederState]
    simp only [Reply.payload, QueueReply.bytes, hoptional, hflag, hclass, hdirection, hstate, List.append_assoc,
      List.singleton_append]
  · -- AIRFLOW
    have hreport : ChannelReport.bytes = fun c => byte1 c.samples ++
      optional (c.newest.map (fun x => byte2s x.velocity ++ [quality x.quality])) ++ flag c.valid ++
      optional (c.velocity.map byte2s) ++ [side c.side] := by
      funext c
      simp only [ChannelReport.bytes, hoptional, hflag, hquality, hside]
    simp only [Reply.payload, hreport, hoptional]
  · -- REFUSE
    exact congrArg (type :: ·) (hrefusal why)

end Sys2Proof.Machine
end

section
/-! The evaluation (Chapter 4): what every stage keeps, what each stage makes of the duty set, and what the whole makes
of it. -/

namespace Sys2Proof.Machine

/-! ### Frames of the duty set's operations -/

/-- A relation that no operation on the duty set breaks. -/
structure DutyFrame (R : State → State → Prop) : Prop where
  refl : ∀ s, R s s
  trans : ∀ s t u, R s t → R t u → R s u
  setDuty : ∀ s d, R s (s.setDuty d)
  join : ∀ s d i r n, R s (s.joinMember d i r n)
  remove : ∀ s i, R s (s.removeMember i)

section
variable {R : State → State → Prop}

theorem DutyFrame.sweep (h : DutyFrame R) (s : State) : R s s.sweep := forEach_rel h.refl h.trans h.remove s _

theorem DutyFrame.recompute (h : DutyFrame R) (s : State) (sc : Scenario) : R s (s.recompute sc) := h.setDuty s _

theorem DutyFrame.joinAll (h : DutyFrame R) (sc : Scenario) (s : State) (l : List Nat) : R s (joinAll sc s l) :=
  forEach_rel h.refl h.trans (fun s i => h.join s _ i _ _) s l

theorem DutyFrame.joinNeeded (h : DutyFrame R) (sc : Scenario) (required : Nat) (s : State) (sum : Nat)
    (l : List Nat) : R s (joinNeeded sc required s sum l).1 := by
  induction l generalizing s sum with
  | nil => exact h.refl s
  | cons i is ih =>
    unfold Machine.joinNeeded
    split
    · exact h.refl s
    · exact h.trans _ _ _ (h.join ..) (ih _ _)

theorem DutyFrame.joinToSize (h : DutyFrame R) (sc : Scenario) (size k redundancy : Nat) (s : State) (l : List Nat) :
    R s (joinToSize sc size k redundancy s l) := by
  induction l generalizing s with
  | nil => exact h.refl s
  | cons i is ih =>
    unfold Machine.joinToSize
    dsimp only
    split
    · exact h.trans _ _ _ (h.join ..) (ih _)
    · exact h.refl s

theorem DutyFrame.releaseLast (h : DutyFrame R) (s : State) : R s s.releaseLast := by
  unfold State.releaseLast
  split
  · exact h.remove s _
  · exact h.refl s

theorem DutyFrame.releaseMany (h : DutyFrame R) (n : Nat) (s : State) : R s (releaseMany n s) := by
  induction n generalizing s with
  | zero => exact h.refl s
  | succ n ih => exact h.trans _ _ _ (h.releaseLast s) (ih _)

end

/-! ### The evaluation in three parts -/

/-- The state after stages 1 to 3 of an evaluation: the required thrust stored, the lost members swept, the figures
recomputed (R57, R58). -/
def State.prepared (s : State) (sc : Scenario) : State :=
  ((s.modifyScenario (fun x => { x with required := s.requiredFor sc })).sweep).recompute sc

/-- Stage 5, from the counted thrusts of the members present (R60). -/
def State.need (s : State) (sc : Scenario) (required : Nat) : State × Nat × List Nat :=
  joinNeeded sc required s (countedSum (nonExpired s.line.duty)) (s.candidates sc)

/-- k, the length of the shortest start of the non-expired members that meets the required thrust (R60). -/
def State.needed (s : State) (sc : Scenario) (required : Nat) : Nat :=
  if required ≤ countedSum (nonExpired s.line.duty) then
    needLength required 0 ((nonExpired s.line.duty).map (fun m => m.counted))
  else (nonExpired (s.need sc required).1.line.duty).length

/-- The size D of an evaluation (R62). -/
def State.sizeFor (s : State) (sc : Scenario) (required redundancy : Nat) : Nat :=
  dutySize (s.needed sc required) redundancy sc.trim
    ((nonExpired (s.need sc required).1.line.duty).length + (s.need sc required).2.2.length)

/-- The state after stages 5 to 7 of an evaluation without full thrust (R60 to R64). -/
def State.resized (s : State) (sc : Scenario) (required redundancy : Nat) : State :=
  let r := s.need sc required
  let count := (nonExpired r.1.line.duty).length
  let size := s.sizeFor sc required redundancy
  if count < size then joinToSize sc size (s.needed sc required) redundancy r.1 r.2.2
  else releaseMany (count - size) r.1

/-- An evaluation under full thrust (R59). -/
theorem State.evaluate_full (s : State) (sc : Scenario) (h : s.line.scenario = some sc) (hf : sc.fullThrust = true) :
    s.evaluate = (joinAll sc (s.prepared sc) ((s.prepared sc).candidates sc)).recordShortfall
      (decide (countedSum (nonExpired (joinAll sc (s.prepared sc) ((s.prepared sc).candidates sc)).line.duty) <
        s.requiredFor sc)) := by
  unfold State.evaluate
  rw [h]
  exact if_pos hf

/-- An evaluation without full thrust (R60 to R65). -/
theorem State.evaluate_size (s : State) (sc : Scenario) (h : s.line.scenario = some sc) (hf : sc.fullThrust = false) :
    s.evaluate = ((s.prepared sc).resized sc (s.requiredFor sc) (s.prepared sc).redundancy).recordShortfall
      (decide (((s.prepared sc).need sc (s.requiredFor sc)).2.1 < s.requiredFor sc)) := by
  unfold State.evaluate
  rw [h]
  exact if_neg (by simp [hf])

theorem DutyFrame.resized {R : State → State → Prop} (h : DutyFrame R) (s : State) (sc : Scenario)
    (required redundancy : Nat) : R s (s.resized sc required redundancy) :=
  ite_keeps (P := R s) (h.trans _ _ _ (h.joinNeeded ..) (h.joinToSize ..))
    (h.trans _ _ _ (h.joinNeeded ..) (h.releaseMany ..))

/-- A frame of the duty set's operations that a change of the scenario record and the SHORTFALL report keep too is kept
by the evaluation. -/
theorem DutyFrame.evaluate {R : State → State → Prop} (h : DutyFrame R) (hs : ∀ s f, R s (s.modifyScenario f))
    (hr : ∀ s, R s s.refreshShortfall) (s : State) : R s s.evaluate := by
  cases hsc : s.line.scenario with
  | none =>
    have : s.evaluate = s := by unfold State.evaluate; rw [hsc]
    rw [this]
    exact h.refl s
  | some sc =>
    have hprepared : R s (s.prepared sc) :=
      h.trans _ _ _ (h.trans _ _ _ (hs s _) (h.sweep _)) (h.recompute _ sc)
    have hrecord : ∀ t b, R t (State.recordShortfall t b) := fun t b => h.trans _ _ _ (hs t _) (hr _)
    cases hf : sc.fullThrust
    · rw [s.evaluate_size sc hsc hf]
      exact h.trans _ _ _ (h.trans _ _ _ hprepared (h.resized ..)) (hrecord _ _)
    · rw [s.evaluate_full sc hsc hf]
      exact h.trans _ _ _ (h.trans _ _ _ hprepared (h.joinAll ..)) (hrecord _ _)

/-! ### The link -/

theorem State.removeMember_link (s : State) (i : Nat) : (s.removeMember i).link = s.link :=
  (State.writeDemand_rest _ i .none).2.2

/-- No operation on the duty set touches the link. -/
theorem DutyFrame.link : DutyFrame (fun s t => t.link = s.link) where
  refl _ := rfl
  trans _ _ _ a b := b.trans a
  setDuty _ _ := rfl
  join _ _ i _ _ := (State.writeDemand_rest _ i _).2.2
  remove := State.removeMember_link

/-- An evaluation sends nothing: the link stays. -/
@[simp] theorem State.evaluate_link (s : State) : s.evaluate.link = s.link :=
  DutyFrame.link.evaluate (fun _ _ => rfl) (fun _ => rfl) s

/-! ### The required thrust -/

/-- No operation on the duty set changes the stored required thrust. -/
theorem DutyFrame.required :
    DutyFrame (fun s t => t.line.scenario.map Scenario.required = s.line.scenario.map Scenario.required) where
  refl _ := rfl
  trans _ _ _ a b := b.trans a
  setDuty _ _ := rfl
  join s d i r n := by
    unfold State.joinMember
    rw [(State.writeDemand_rest _ i _).1]
    cases hs : s.line.scenario <;> simp [hs]
  remove s i := by
    unfold State.removeMember
    rw [(State.writeDemand_rest _ i _).1]
    cases hs : s.line.scenario <;> simp [hs]

/-- The shortfall decided is stored, and nothing else of the record changes (R65). -/
theorem State.recordShortfall_scenario (s : State) (b : Bool) :
    (s.recordShortfall b).line.scenario = s.line.scenario.map (fun sc => { sc with shortfall := b }) := rfl

@[simp] theorem State.recordShortfall_duty (s : State) (b : Bool) : (s.recordShortfall b).line.duty = s.line.duty := rfl

/-- Stages 1 to 3 store the required thrust (R57). -/
theorem State.prepared_required (s : State) (sc : Scenario) (h : s.line.scenario = some sc) :
    (s.prepared sc).line.scenario.map Scenario.required = some (s.requiredFor sc) := by
  have hframe := DutyFrame.required.trans _ _ _
    (DutyFrame.required.sweep (s.modifyScenario (fun x => { x with required := s.requiredFor sc })))
    (DutyFrame.required.recompute _ sc)
  rw [State.prepared, hframe, State.modifyScenario_line, h]
  rfl

/-- The record after the SHORTFALL decision, from a state whose stored required thrust is known. -/
theorem State.recordShortfall_stores (t : State) (b : Bool) (n : Nat)
    (h : t.line.scenario.map Scenario.required = some n) :
    ∃ now, (t.recordShortfall b).line.scenario = some now ∧ now.required = n ∧ now.shortfall = b := by
  obtain ⟨x, hx, rfl⟩ := Option.map_eq_some_iff.mp h
  exact ⟨{ x with shortfall := b }, by rw [State.recordShortfall_scenario, hx]; rfl, rfl, rfl⟩

/-- The record after an evaluation holds the required thrust of the figures in effect (R25, R57). -/
theorem State.evaluate_required (s : State) (sc : Scenario) (h : s.line.scenario = some sc) :
    ∃ now, s.evaluate.line.scenario = some now ∧ now.required = s.requiredFor sc := by
  have hprepared := s.prepared_required sc h
  cases hf : sc.fullThrust
  · rw [s.evaluate_size sc h hf]
    obtain ⟨now, hnow, hreq, -⟩ := State.recordShortfall_stores _ _ _
      ((DutyFrame.required.resized (s.prepared sc) sc _ _).trans hprepared)
    exact ⟨now, hnow, hreq⟩
  · rw [s.evaluate_full sc h hf]
    obtain ⟨now, hnow, hreq, -⟩ := State.recordShortfall_stores _ _ _
      ((DutyFrame.required.joinAll sc (s.prepared sc) _).trans hprepared)
    exact ⟨now, hnow, hreq⟩

/-! ### The figures an evaluation reads -/

/-- Grants leave every fan usable or lost as it was. -/
theorem State.OnlyStarts.isWorking {s t : State} (h : s.OnlyStarts t) (j : Nat) :
    (t.fan j).state.isWorking = (s.fan j).state.isWorking := by
  rcases h.2 j with h | ⟨hq, d, h⟩
  · rw [h]
  · rw [h, hq]
    rfl

/-- A change of a fan that leaves it usable or lost leaves every fan so. -/
theorem State.modifyFan_isWorking (s : State) (i : Nat) (f : Fan → Fan)
    (h : (f (s.fan i)).state.isWorking = (s.fan i).state.isWorking) (j : Nat) :
    ((s.modifyFan i f).fan j).state.isWorking = (s.fan j).state.isWorking := by
  by_cases hj : j = i
  · subst hj
    rcases Nat.lt_or_ge j s.fanCount with hlt | hge
    · rw [State.fan_modifyFan_self s j f hlt, h]
    · rw [State.modifyFan_none s j f hge]
  · rw [State.fan_modifyFan_ne s i j f hj]

/-- Acting on a demand leaves every fan usable or lost as it was (R96). -/
theorem State.actOnDemand_isWorking (s : State) (i : Nat) (d : Demand) (j : Nat) :
    ((s.actOnDemand i d).fan j).state.isWorking = (s.fan j).state.isWorking := by
  have coast : (s.fan i).state.isWorking = true → ((s.toCoasting i).fan j).state.isWorking =
      (s.fan j).state.isWorking := fun h =>
    State.modifyFan_isWorking s i (fun f => { f.runOff s.feedbackAllowance with state := .coasting }) h.symm j
  have abandon : (s.fan i).state.isWorking = true → ((s.abandonStart i).fan j).state.isWorking =
      (s.fan j).state.isWorking := fun h => ((State.OnlyStarts.freeSlot (s.toCoasting i) i).isWorking j).trans (coast h)
  unfold State.actOnDemand
  split
  next h =>
    exact ((State.OnlyStarts.requestStart _ i _ _).isWorking j).trans
      (State.modifyFan_isWorking s i _ (by rw [h]; rfl) j)
  next h =>
    have hframe := State.OnlyStarts.onFeederOf s i (fun f => f.remove i)
    refine (State.modifyFan_isWorking _ i _ ?_ j).trans (hframe.isWorking j)
    rw [hframe.isWorking i, h]
    rfl
  next => exact (State.OnlyStarts.onFeederOf s i _).isWorking j
  next h => exact abandon (by rw [h]; rfl)
  next h =>
    exact ite_keeps (P := fun t : State => (t.fan j).state.isWorking = (s.fan j).state.isWorking) rfl
      (abandon (by rw [h]; rfl))
  next h => exact coast (by rw [h]; rfl)
  next h =>
    exact ite_keeps (P := fun t : State => (t.fan j).state.isWorking = (s.fan j).state.isWorking) rfl
      (coast (by rw [h]; rfl))
  next => rfl

/-- Writing a demand leaves every fan usable or lost as it was (R96). -/
theorem State.writeDemand_isWorking (s : State) (i : Nat) (d : Demand) (j : Nat) :
    ((s.writeDemand i d).fan j).state.isWorking = (s.fan j).state.isWorking := by
  refine ite_keeps (P := fun t : State => (t.fan j).state.isWorking = (s.fan j).state.isWorking) rfl ?_
  refine (State.actOnDemand_isWorking _ i d j).trans ?_
  apply State.modifyFan_isWorking
  rfl

/-- What an evaluation reads of the image and of the fans is the same in `t` as in `s` (R29, R55). -/
structure State.SameFigures (s t : State) : Prop where
  image : t.image = s.image
  fanCount : t.fanCount = s.fanCount
  expired : ∀ i, (t.fan i).expired = (s.fan i).expired
  working : ∀ i, (t.fan i).state.isWorking = (s.fan i).state.isWorking

theorem State.SameFigures.refl (s : State) : s.SameFigures s := ⟨rfl, rfl, fun _ => rfl, fun _ => rfl⟩

theorem State.SameFigures.trans {s t u : State} (a : s.SameFigures t) (b : t.SameFigures u) : s.SameFigures u :=
  ⟨b.image.trans a.image, b.fanCount.trans a.fanCount, fun i => (b.expired i).trans (a.expired i),
    fun i => (b.working i).trans (a.working i)⟩

/-- Work of the frame under which no fan is lost or regained keeps the figures. -/
theorem State.SameFigures.of_fieldWork {s t : State} (h : State.FieldWork s t)
    (hw : ∀ i, (t.fan i).state.isWorking = (s.fan i).state.isWorking) : s.SameFigures t where
  image := h.image
  fanCount := h.fanCount
  expired i := by
    obtain ⟨-, -, -, -, hexpired, -⟩ := h.history i
    exact hexpired
  working := hw

/-- No operation on the duty set changes the figures. -/
theorem DutyFrame.figures : DutyFrame State.SameFigures where
  refl := State.SameFigures.refl
  trans _ _ _ a b := a.trans b
  setDuty s d := .of_fieldWork (State.FieldWork.setDuty s d) fun _ => rfl
  join s d i r n := .of_fieldWork (State.FieldWork.joinMember s d i r n) fun j => State.writeDemand_isWorking _ i _ j
  remove s i := .of_fieldWork (State.FieldWork.removeMember s i) fun j => State.writeDemand_isWorking _ i _ j

theorem State.evaluate_figures (s : State) : s.SameFigures s.evaluate :=
  DutyFrame.figures.evaluate (fun _ _ => ⟨rfl, rfl, fun _ => rfl, fun _ => rfl⟩)
    (fun _ => ⟨rfl, rfl, fun _ => rfl, fun _ => rfl⟩) s

theorem State.prepared_figures (s : State) (sc : Scenario) : s.SameFigures (s.prepared sc) :=
  State.SameFigures.trans (t := s.modifyScenario _) ⟨rfl, rfl, fun _ => rfl, fun _ => rfl⟩
    ((DutyFrame.figures.sweep _).trans (DutyFrame.figures.recompute _ sc))

theorem State.SameFigures.countedFor {s t : State} (h : s.SameFigures t) (sc : Scenario) (i : Nat) :
    t.countedFor sc i = s.countedFor sc i := by
  obtain ⟨hstatic, -, -, -, -, -, -, htunnel, -, hchainage, -⟩ := State.statics_congr h.image
  simp only [State.countedFor, State.fanSide, hstatic, htunnel, hchainage, h.expired]

/-- With the same figures, a fan is a candidate by its membership alone. -/
theorem State.SameFigures.isCandidate_eq_false {s t : State} (h : s.SameFigures t) (sc : Scenario) (i : Nat)
    (hjoined : s.isCandidate sc i = true → t.isMember i = true)
    (hkept : s.isMember i = true → t.isMember i = true) : t.isCandidate sc i = false := by
  obtain ⟨-, -, -, -, -, -, -, -, -, hchainage, -⟩ := State.statics_congr h.image
  unfold State.isCandidate State.fanExcluded at *
  rw [h.fanCount, hchainage, h.expired, h.working]
  cases hm : s.isMember i
  · cases ht : t.isMember i
    · rw [hm, ht] at hjoined
      simpa using hjoined
    · simp
  · simp [hkept hm]

end Sys2Proof.Machine
end

section
/-! What each stage of the evaluation makes of the duty set, and that it meets the required thrust or runs out of
candidates (Chapter 4). -/

namespace Sys2Proof.Machine

/-! ### Member records -/

/-- The record with which fan `i` joins, in the figures in effect (R29, R53). -/
def State.memberOf (s : State) (sc : Scenario) (r : JoinReason) (i : Nat) : Member :=
  { fan := i, reason := r, counted := s.countedFor sc i, expired := (s.fan i).expired }

theorem State.SameFigures.symm {s t : State} (h : s.SameFigures t) : t.SameFigures s :=
  ⟨h.image.symm, h.fanCount.symm, fun i => (h.expired i).symm, fun i => (h.working i).symm⟩

theorem State.SameFigures.memberOf {s t : State} (h : s.SameFigures t) (sc : Scenario) (r : JoinReason) :
    t.memberOf sc r = s.memberOf sc r := by
  funext i
  simp only [State.memberOf, h.countedFor, h.expired]

theorem State.joinMember_memberOf (s : State) (sc : Scenario) (r : JoinReason) (i : Nat) :
    (s.joinMember sc.direction i r (s.countedFor sc i)).line.duty = s.line.duty ++ [s.memberOf sc r i] :=
  State.joinMember_duty ..

theorem State.isMember_iff (s : State) (i : Nat) : s.isMember i = true ↔ ∃ x ∈ s.line.duty, x.fan = i := by
  simp [State.isMember]

theorem State.isMember_of_mem {s : State} {x : Member} (h : x ∈ s.line.duty) : s.isMember x.fan = true :=
  (s.isMember_iff x.fan).mpr ⟨x, h, rfl⟩

theorem State.mem_candidates (s : State) (sc : Scenario) (i : Nat) :
    i ∈ s.candidates sc ↔ i ∈ sc.preference ∧ s.isCandidate sc i = true := List.mem_filter

/-- A candidate is usable and not expired (R55). -/
theorem State.candidate_usable {s : State} {sc : Scenario} {i : Nat} (h : i ∈ s.candidates sc) :
    (s.fan i).state.isWorking = true ∧ (s.fan i).expired = false := by
  have := ((s.mem_candidates sc i).mp h).2
  simp only [State.isCandidate, Bool.and_eq_true, Bool.not_eq_true'] at this
  exact ⟨this.2, this.1.2⟩

/-! ### Sums of counted thrust -/

theorem nonExpired_append (l l' : List Member) : nonExpired (l ++ l') = nonExpired l ++ nonExpired l' :=
  List.filter_append l l'

theorem countedSum_append (l l' : List Member) : countedSum (l ++ l') = countedSum l + countedSum l' := by
  simp [countedSum]

theorem countedSum_le {l l' : List Member} (h : l.Sublist l') : countedSum l ≤ countedSum l' :=
  (h.map _).sum_le_sum fun _ _ => Nat.zero_le _

/-- Members whose fans are not expired all count. -/
theorem State.nonExpired_memberOf (s : State) (sc : Scenario) (r : JoinReason) (l : List Nat)
    (h : ∀ i ∈ l, (s.fan i).expired = false) :
    nonExpired (l.map (s.memberOf sc r)) = l.map (s.memberOf sc r) := by
  refine List.filter_eq_self.mpr fun x hx => ?_
  obtain ⟨i, hi, rfl⟩ := List.mem_map.mp hx
  simp [State.memberOf, h i hi]

/-- The shortest start that meets a requirement meets it (R60). -/
theorem needLength_meets (required sum : Nat) (l : List Nat) (h : required ≤ sum + l.sum) :
    required ≤ sum + (l.take (needLength required sum l)).sum := by
  induction l generalizing sum with
  | nil => simpa using h
  | cons c cs ih =>
    unfold needLength
    split
    · omega
    · have := ih (sum + c) (by rw [List.sum_cons] at h; omega)
      rw [List.take_succ_cons, List.sum_cons]
      omega

theorem needLength_le (required sum : Nat) (l : List Nat) : needLength required sum l ≤ l.length := by
  induction l generalizing sum with
  | nil => exact le_rfl
  | cons c cs ih =>
    unfold needLength
    split
    · exact Nat.zero_le _
    · exact Nat.succ_le_succ (ih _)

/-! ### The stages -/

/-- Removing fans one after another removes their member records. -/
theorem forEach_removeMember_duty (s : State) (l : List Nat) :
    (forEach State.removeMember s l).line.duty = s.line.duty.filter (fun x => !l.contains x.fan) := by
  induction l generalizing s with
  | nil => simp [forEach]
  | cons i is ih =>
    have hstep : forEach State.removeMember s (i :: is) = forEach State.removeMember (s.removeMember i) is := rfl
    rw [hstep, ih, State.removeMember_duty, List.filter_filter]
    refine List.filter_congr fun x _ => ?_
    by_cases hx : x.fan = i <;> simp [hx]

/-- Stage 2 leaves the members whose fans are usable (R57). -/
theorem State.sweep_duty (s : State) :
    s.sweep.line.duty = s.line.duty.filter (fun x => (s.fan x.fan).state.isWorking) := by
  unfold State.sweep
  rw [forEach_removeMember_duty]
  refine List.filter_congr fun x hx => ?_
  have hmem : x.fan ∈ (s.line.duty.filter (fun m => (s.fan m.fan).state.isHolding)).map (fun m => m.fan) ↔
      (s.fan x.fan).state.isWorking = false := by
    simp only [List.mem_map, List.mem_filter, FanState.isHolding, Bool.not_eq_true']
    constructor
    · rintro ⟨y, ⟨-, hy⟩, hfan⟩
      exact hfan ▸ hy
    · exact fun h => ⟨x, ⟨hx, h⟩, rfl⟩
  cases hw : (s.fan x.fan).state.isWorking
  · simp [hmem.mpr hw]
  · simpa [hw] using hmem

/-- Stages 1 to 3: the usable members, each with its figures taken afresh (R57, R58). -/
theorem State.prepared_duty (s : State) (sc : Scenario) : (s.prepared sc).line.duty =
    (s.line.duty.filter (fun x => (s.fan x.fan).state.isWorking)).map (fun x => s.memberOf sc x.reason x.fan) := by
  let u := s.modifyScenario (fun x => { x with required := s.requiredFor sc })
  have hfigures : s.SameFigures u.sweep :=
    State.SameFigures.trans (t := u) ⟨rfl, rfl, fun _ => rfl, fun _ => rfl⟩ (DutyFrame.figures.sweep u)
  have hduty : u.sweep.line.duty = s.line.duty.filter (fun x => (s.fan x.fan).state.isWorking) := u.sweep_duty
  have hrecompute : (s.prepared sc).line.duty =
      u.sweep.line.duty.map (fun x => u.sweep.memberOf sc x.reason x.fan) := rfl
  rw [hrecompute, hduty]
  simp only [hfigures.memberOf]

/-- Stage 4: every candidate joins with reason FULL (R59). -/
theorem joinAll_duty (sc : Scenario) (s : State) (l : List Nat) :
    (joinAll sc s l).line.duty = s.line.duty ++ l.map (s.memberOf sc .full) := by
  induction l generalizing s with
  | nil => simp [joinAll, forEach]
  | cons i is ih =>
    let u := s.joinMember sc.direction i .full (s.countedFor sc i)
    have hstep : joinAll sc s (i :: is) = joinAll sc u is := rfl
    rw [hstep, ih u, (DutyFrame.figures.join ..).memberOf, State.joinMember_memberOf]
    simp

/-- Stage 5 (R60): a start of the candidates joins with reason NEED; the sum is that of the figures; the rest remains
only when the requirement is met, and nobody joins when it is met at once. -/
theorem joinNeeded_spec (sc : Scenario) (required : Nat) (s : State) (sum : Nat) (l : List Nat) :
    ∃ joined rest, l = joined ++ rest ∧
      (joinNeeded sc required s sum l).1.line.duty = s.line.duty ++ joined.map (s.memberOf sc .need) ∧
      (joinNeeded sc required s sum l).2.1 = sum + countedSum (joined.map (s.memberOf sc .need)) ∧
      (joinNeeded sc required s sum l).2.2 = rest ∧
      (rest ≠ [] → required ≤ (joinNeeded sc required s sum l).2.1) ∧ (required ≤ sum → joined = []) := by
  induction l generalizing s sum with
  | nil => exact ⟨[], [], rfl, by simp [joinNeeded], rfl, rfl, fun h => absurd rfl h, fun _ => rfl⟩
  | cons i is ih =>
    by_cases hmet : required ≤ sum
    · have hstop : joinNeeded sc required s sum (i :: is) = (s, sum, i :: is) := if_pos hmet
      rw [hstop]
      exact ⟨[], i :: is, rfl, by simp, rfl, rfl, fun _ => hmet, fun _ => rfl⟩
    · let u := s.joinMember sc.direction i .need (s.countedFor sc i)
      have hstep : joinNeeded sc required s sum (i :: is) = joinNeeded sc required u (sum + s.countedFor sc i) is :=
        if_neg hmet
      obtain ⟨joined, rest, hl, hduty, hsum, hrest, hend, -⟩ := ih u (sum + s.countedFor sc i)
      rw [(DutyFrame.figures.join ..).memberOf] at hduty hsum
      rw [hstep]
      refine ⟨i :: joined, rest, by rw [hl]; rfl, ?_, ?_, hrest, hend, fun h => absurd h hmet⟩
      · rw [hduty, State.joinMember_memberOf]
        simp
      · rw [hsum]
        simp only [countedSum, List.map_cons, List.sum_cons, State.memberOf]
        omega

/-- Stage 7, joins (R63): further candidates join behind the members. -/
theorem joinToSize_spec (sc : Scenario) (size k redundancy : Nat) (s : State) (l : List Nat) :
    ∃ added, (joinToSize sc size k redundancy s l).line.duty = s.line.duty ++ added ∧
      ∀ x ∈ added, ∃ i ∈ l, ∃ r, x = s.memberOf sc r i := by
  induction l generalizing s with
  | nil => exact ⟨[], by simp [joinToSize], by simp⟩
  | cons i is ih =>
    unfold joinToSize
    dsimp only
    split
    · obtain ⟨added, hduty, hadded⟩ := ih (s.joinMember sc.direction i
        (if (nonExpired s.line.duty).length + 1 - k ≤ redundancy then .redundant else .trim) (s.countedFor sc i))
      refine ⟨s.memberOf sc _ i :: added, by
        rw [hduty, State.joinMember_memberOf, List.append_assoc, List.singleton_append], ?_⟩
      rintro x (_ | ⟨_, hx⟩)
      · exact ⟨i, List.mem_cons_self, _, rfl⟩
      · obtain ⟨j, hj, r, rfl⟩ := hadded x hx
        exact ⟨j, List.mem_cons_of_mem _ hj, r, congrFun ((DutyFrame.figures.join ..).memberOf sc r) j⟩
    · exact ⟨[], by simp, by simp⟩

/-- A list that holds no fan twice, without its last member's fan, is the list without its last member. -/
theorem filter_last_fan {l : List Member} {m : Member} (h : ((l ++ [m]).map (fun x => x.fan)).Nodup) :
    (l ++ [m]).filter (fun x => !decide (x.fan = m.fan)) = l := by
  have hfresh : ∀ x ∈ l, x.fan ≠ m.fan := by
    rw [List.map_append, List.nodup_append] at h
    exact fun x hx => h.2.2 x.fan (List.mem_map_of_mem hx) m.fan (by simp)
  rw [List.filter_append, List.filter_eq_self.mpr (by simpa using hfresh)]
  simp

/-- A release takes the last-joined non-expired member (R64). -/
theorem State.releaseLast_duty (s : State) (h : (s.line.duty.map (fun x => x.fan)).Nodup) :
    s.releaseLast.line.duty.Sublist s.line.duty ∧
      nonExpired s.releaseLast.line.duty = (nonExpired s.line.duty).dropLast := by
  unfold State.releaseLast
  split
  next m hm =>
    obtain ⟨before, hlist⟩ := List.getLast?_eq_some_iff.mp hm
    have hnodup : ((before ++ [m]).map (fun x => x.fan)).Nodup := by
      rw [← hlist]
      exact h.sublist (List.filter_sublist.map _)
    rw [State.removeMember_duty]
    refine ⟨List.filter_sublist, ?_⟩
    have hcomm : nonExpired (s.line.duty.filter (fun x => !decide (x.fan = m.fan))) =
        (nonExpired s.line.duty).filter (fun x => !decide (x.fan = m.fan)) := by
      simp only [nonExpired, List.filter_filter, Bool.and_comm]
    rw [hcomm, hlist, filter_last_fan hnodup, List.dropLast_concat]
  next hnone =>
    rw [List.getLast?_eq_none_iff.mp hnone]
    exact ⟨List.Sublist.refl _, rfl⟩

/-- `n` releases take the `n` last-joined non-expired members (R64). -/
theorem releaseMany_duty (n : Nat) (s : State) (h : (s.line.duty.map (fun x => x.fan)).Nodup) :
    (releaseMany n s).line.duty.Sublist s.line.duty ∧
      nonExpired (releaseMany n s).line.duty =
        (nonExpired s.line.duty).take ((nonExpired s.line.duty).length - n) := by
  induction n generalizing s with
  | zero => exact ⟨List.Sublist.refl _, by simp [releaseMany]⟩
  | succ n ih =>
    obtain ⟨hsub, hlast⟩ := s.releaseLast_duty h
    obtain ⟨hsub', htake⟩ := ih s.releaseLast (h.sublist (hsub.map _))
    refine ⟨hsub'.trans hsub, htake.trans ?_⟩
    rw [hlast, List.length_dropLast, List.dropLast_eq_take, List.take_take]
    congr 1
    omega

/-! ### Stages 5 to 7 -/

/-- Stage 5 as the evaluation makes it: the members and a start of the candidates, the sum they count, the rest. -/
theorem State.need_spec (s : State) (sc : Scenario) (required : Nat) :
    ∃ joined rest, s.candidates sc = joined ++ rest ∧
      (s.need sc required).1.line.duty = s.line.duty ++ joined.map (s.memberOf sc .need) ∧
      (s.need sc required).2.1 = countedSum (nonExpired (s.need sc required).1.line.duty) ∧
      (s.need sc required).2.2 = rest ∧ (rest ≠ [] → required ≤ (s.need sc required).2.1) ∧
      (required ≤ countedSum (nonExpired s.line.duty) → joined = []) := by
  obtain ⟨joined, rest, hcands, hduty, hsum, hrest, hend, hnone⟩ :=
    joinNeeded_spec sc required s (countedSum (nonExpired s.line.duty)) (s.candidates sc)
  refine ⟨joined, rest, hcands, hduty, ?_, hrest, hend, hnone⟩
  have hlive : ∀ i ∈ joined, (s.fan i).expired = false := fun i hi =>
    (State.candidate_usable (by rw [hcands]; exact List.mem_append_left _ hi)).2
  unfold State.need
  rw [hsum, hduty, nonExpired_append, countedSum_append, s.nonExpired_memberOf sc .need joined hlive]

/-- With t not negative the size is at least k (R62). -/
theorem le_dutySize {k available : Nat} (redundancy : Nat) {trim : Int} (hk : k ≤ available) (ht : 0 ≤ trim) :
    k ≤ dutySize k redundancy trim available := by
  unfold dutySize
  omega

/-- k is at most the number of non-expired members, and the first k of them meet a requirement that all of them meet
(R60). -/
theorem State.needed_spec (s : State) (sc : Scenario) (required : Nat) :
    s.needed sc required ≤ (nonExpired (s.need sc required).1.line.duty).length ∧
      (required ≤ (s.need sc required).2.1 → required ≤
        countedSum ((nonExpired (s.need sc required).1.line.duty).take (s.needed sc required))) := by
  obtain ⟨joined, rest, -, hduty, hsum, -, -, hnone⟩ := s.need_spec sc required
  unfold State.needed
  split
  next hmet =>
    have hsame : (s.need sc required).1.line.duty = s.line.duty := by rw [hduty, hnone hmet]; simp
    rw [hsame]
    have hstart := needLength_meets required 0 ((nonExpired s.line.duty).map (fun m => m.counted)) (by
      rw [Nat.zero_add]; exact hmet)
    refine ⟨by simpa using needLength_le required 0 ((nonExpired s.line.duty).map (fun m => m.counted)), fun _ => ?_⟩
    rw [Nat.zero_add, ← List.map_take] at hstart
    exact hstart
  next =>
    rw [List.take_length, ← hsum]
    exact ⟨le_rfl, id⟩

/-- Whoever is in the duty set after stages 5 to 7 was a member, or a candidate that has joined. -/
theorem State.mem_resized {s : State} {sc : Scenario} {required redundancy : Nat} {x : Member}
    (hnodup : ((s.need sc required).1.line.duty.map (fun x => x.fan)).Nodup)
    (hx : x ∈ (s.resized sc required redundancy).line.duty) :
    x ∈ s.line.duty ∨ ∃ i ∈ s.candidates sc, ∃ r, x = s.memberOf sc r i := by
  obtain ⟨joined, rest, hcands, hduty, -, hrest, -⟩ := s.need_spec sc required
  have hneed : x ∈ (s.need sc required).1.line.duty →
      x ∈ s.line.duty ∨ ∃ i ∈ s.candidates sc, ∃ r, x = s.memberOf sc r i := by
    rw [hduty, List.mem_append, List.mem_map]
    rintro (h | ⟨i, hi, rfl⟩)
    · exact .inl h
    · exact .inr ⟨i, by rw [hcands]; exact List.mem_append_left _ hi, _, rfl⟩
  unfold State.resized at hx
  dsimp only at hx
  split at hx
  · obtain ⟨added, hadd, hadded⟩ := joinToSize_spec sc (s.sizeFor sc required redundancy) (s.needed sc required)
      redundancy (s.need sc required).1 (s.need sc required).2.2
    rw [hadd, List.mem_append] at hx
    refine hx.elim hneed fun hx => ?_
    obtain ⟨i, hi, r, rfl⟩ := hadded x hx
    refine .inr ⟨i, by rw [hcands]; exact List.mem_append_right _ (hrest ▸ hi), r, ?_⟩
    exact congrFun ((DutyFrame.figures.joinNeeded ..).memberOf sc r) i
  · exact hneed ((releaseMany_duty _ _ hnodup).1.subset hx)

/-- With t not negative stages 5 to 7 keep a requirement met (R60 to R64). -/
theorem State.resized_meets {s : State} {sc : Scenario} {required : Nat} (redundancy : Nat)
    (hnodup : ((s.need sc required).1.line.duty.map (fun x => x.fan)).Nodup) (ht : 0 ≤ sc.trim)
    (hmet : required ≤ (s.need sc required).2.1) :
    required ≤ countedSum (nonExpired (s.resized sc required redundancy).line.duty) := by
  obtain ⟨hk, hstart⟩ := s.needed_spec sc required
  have hsize : s.needed sc required ≤ s.sizeFor sc required redundancy := le_dutySize redundancy (by omega) ht
  unfold State.resized
  dsimp only
  split
  · obtain ⟨added, hadd, -⟩ := joinToSize_spec sc (s.sizeFor sc required redundancy) (s.needed sc required)
      redundancy (s.need sc required).1 (s.need sc required).2.2
    obtain ⟨-, -, -, -, hsum, -⟩ := s.need_spec sc required
    rw [hadd, nonExpired_append, countedSum_append]
    omega
  · rw [(releaseMany_duty _ _ hnodup).2]
    exact (hstart hmet).trans (countedSum_le (List.take_sublist_take_left (by omega)))

/-- With t not negative and the requirement not met, stages 5 to 7 take every candidate and release nobody (R60 to
R64). -/
theorem State.resized_exhausts {s : State} {sc : Scenario} {required : Nat} (redundancy : Nat) (ht : 0 ≤ sc.trim)
    (hshort : (s.need sc required).2.1 < required) :
    (s.resized sc required redundancy).line.duty = s.line.duty ++ (s.candidates sc).map (s.memberOf sc .need) := by
  obtain ⟨joined, rest, hcands, hduty, hsum, hrest, hend, -⟩ := s.need_spec sc required
  have hnil : rest = [] := by
    by_contra h
    have := hend h
    omega
  have hpresent : ¬ required ≤ countedSum (nonExpired s.line.duty) := by
    rw [hduty, nonExpired_append, countedSum_append] at hsum
    omega
  have hk : s.needed sc required = (nonExpired (s.need sc required).1.line.duty).length := if_neg hpresent
  have hsize : s.sizeFor sc required redundancy = (nonExpired (s.need sc required).1.line.duty).length := by
    have hlow : s.needed sc required ≤ s.sizeFor sc required redundancy := le_dutySize redundancy (by omega) ht
    have hhigh : s.sizeFor sc required redundancy ≤
        (nonExpired (s.need sc required).1.line.duty).length + (s.need sc required).2.2.length := Nat.min_le_right _ _
    rw [hrest, hnil, List.length_nil] at hhigh
    omega
  unfold State.resized
  dsimp only
  rw [hsize, if_neg (lt_irrefl _), Nat.sub_self, hcands, hnil, List.append_nil]
  exact hduty

/-- No fan stands twice in the duty set after stage 5: candidates are no members (R55). -/
theorem State.need_nodup {s : State} {sc : Scenario} (required : Nat)
    (hduty : (s.line.duty.map (fun x => x.fan)).Nodup) (hpreference : sc.preference.Nodup) :
    ((s.need sc required).1.line.duty.map (fun x => x.fan)).Nodup := by
  obtain ⟨joined, rest, hcands, hneed, -⟩ := s.need_spec sc required
  have hjoined : joined.Nodup := by
    have : (s.candidates sc).Nodup := hpreference.filter _
    rw [hcands] at this
    exact (List.nodup_append.mp this).1
  have hfans : (joined.map (s.memberOf sc .need)).map (fun x => x.fan) = joined := by
    rw [List.map_map]
    exact List.map_id joined
  rw [hneed, List.map_append, hfans, List.nodup_append]
  refine ⟨hduty, hjoined, fun i hi j hj hij => ?_⟩
  obtain ⟨x, hx, rfl⟩ := List.mem_map.mp hi
  have hcandidate := ((s.mem_candidates sc j).mp (by rw [hcands]; exact List.mem_append_left _ hj)).2
  rw [← hij] at hcandidate
  simp [State.isCandidate, State.isMember_of_mem hx] at hcandidate

/-! ### The whole evaluation -/

/-- The member is usable and carries the figures in effect (R29, R58). -/
def State.Fits (s : State) (sc : Scenario) (x : Member) : Prop :=
  (s.fan x.fan).state.isWorking = true ∧ x.counted = s.countedFor sc x.fan ∧ x.expired = (s.fan x.fan).expired

theorem State.prepared_fits {s : State} {sc : Scenario} {x : Member} (hx : x ∈ (s.prepared sc).line.duty) :
    s.Fits sc x := by
  rw [State.prepared_duty, List.mem_map] at hx
  obtain ⟨y, hy, rfl⟩ := hx
  exact ⟨(List.mem_filter.mp hy).2, rfl, rfl⟩

theorem State.candidate_fits {s : State} {sc : Scenario} {i : Nat} (r : JoinReason)
    (hi : i ∈ (s.prepared sc).candidates sc) : s.Fits sc ((s.prepared sc).memberOf sc r i) := by
  have hfigures := s.prepared_figures sc
  rw [hfigures.memberOf]
  exact ⟨(hfigures.working i).symm.trans (State.candidate_usable hi).1, rfl, rfl⟩

/-- A member whose fan is usable stays through stages 1 to 3, and nobody joins in them (R57). -/
theorem State.prepared_isMember (s : State) (sc : Scenario) (i : Nat) :
    (s.prepared sc).isMember i = true ↔ s.isMember i = true ∧ (s.fan i).state.isWorking = true := by
  rw [State.isMember_iff, State.isMember_iff, State.prepared_duty]
  simp only [List.mem_map, List.mem_filter]
  constructor
  · rintro ⟨_, ⟨y, ⟨hy, hw⟩, rfl⟩, rfl⟩
    exact ⟨⟨y, hy, rfl⟩, hw⟩
  · rintro ⟨⟨y, hy, rfl⟩, hw⟩
    exact ⟨_, ⟨y, ⟨hy, hw⟩, rfl⟩, rfl⟩

/-- When the duty set ends as the members with every candidate behind them, none is left (R55). -/
theorem State.no_candidate_left {s : State} {sc : Scenario} {r : JoinReason}
    (h : s.evaluate.line.duty =
      (s.prepared sc).line.duty ++ ((s.prepared sc).candidates sc).map ((s.prepared sc).memberOf sc r)) :
    ∀ i ∈ sc.preference, s.evaluate.isCandidate sc i = false := by
  intro i hi
  have hmem : ∀ x ∈ (s.prepared sc).line.duty ++ ((s.prepared sc).candidates sc).map ((s.prepared sc).memberOf sc r),
      s.evaluate.isMember x.fan = true := fun x hx => State.isMember_of_mem (by rw [h]; exact hx)
  refine ((s.prepared_figures sc).symm.trans s.evaluate_figures).isCandidate_eq_false sc i (fun hc => ?_) fun hm => ?_
  · exact hmem _ (List.mem_append_right _ (List.mem_map_of_mem (((s.prepared sc).mem_candidates sc i).mpr ⟨hi, hc⟩)))
  · obtain ⟨x, hx, rfl⟩ := ((s.prepared sc).isMember_iff i).mp hm
    exact hmem x (List.mem_append_left _ hx)

/-- Settles O59: under full thrust by stage 4, without it by what stages 5 to 7 keep met or leave exhausted. -/
theorem evaluationMeetsTheNeedOrReportsShortfall : Obligations.EvaluationMeetsTheNeedOrReportsShortfall := by
  intro s sc ⟨hnodup, hpreference⟩ hsc
  have hstored := s.prepared_required sc hsc
  set a := s.prepared sc with ha
  cases hfull : sc.fullThrust
  · have heval := s.evaluate_size sc hsc hfull
    rw [← ha] at heval
    have hduty : s.evaluate.line.duty = (a.resized sc (s.requiredFor sc) a.redundancy).line.duty := by rw [heval]; rfl
    have hfans : (a.line.duty.map (fun x => x.fan)).Nodup := by
      rw [ha, State.prepared_duty, List.map_map]
      exact hnodup.sublist (List.filter_sublist.map _)
    have hneed := State.need_nodup (s.requiredFor sc) hfans (hpreference sc hsc)
    obtain ⟨now, hnow, hrequired, hshort⟩ := State.recordShortfall_stores (a.resized sc (s.requiredFor sc) a.redundancy)
      (decide ((a.need sc (s.requiredFor sc)).2.1 < s.requiredFor sc)) _
      ((DutyFrame.required.resized a sc _ _).trans hstored)
    refine ⟨now, heval ▸ hnow, hrequired, fun _ ht => ⟨fun hmet => ?_, fun hmissed => ?_⟩, nofun, fun x hx => ?_⟩
    · rw [hshort, decide_eq_false_iff_not, not_lt] at hmet
      rw [hrequired, hduty]
      exact State.resized_meets _ hneed ht hmet
    · rw [hshort, decide_eq_true_eq] at hmissed
      exact State.no_candidate_left (hduty.trans (State.resized_exhausts _ ht hmissed))
    · rw [hduty] at hx
      rcases State.mem_resized hneed hx with hx | ⟨i, hi, r, rfl⟩
      · exact State.prepared_fits hx
      · exact State.candidate_fits r hi
  · have heval := s.evaluate_full sc hsc hfull
    rw [← ha] at heval
    have hduty : s.evaluate.line.duty = a.line.duty ++ (a.candidates sc).map (a.memberOf sc .full) := by
      rw [heval, State.recordShortfall_duty, joinAll_duty]
    obtain ⟨now, hnow, hrequired, hshort⟩ := State.recordShortfall_stores (joinAll sc a (a.candidates sc))
      (decide (countedSum (nonExpired (joinAll sc a (a.candidates sc)).line.duty) < s.requiredFor sc)) _
      ((DutyFrame.required.joinAll sc a _).trans hstored)
    refine ⟨now, heval ▸ hnow, hrequired, nofun, fun _ =>
      ⟨State.no_candidate_left hduty, fun i hi hw => ?_, fun x hx hnew => ?_, ?_⟩, fun x hx => ?_⟩
    · obtain ⟨x, hx, rfl⟩ := (a.isMember_iff i).mp ((s.prepared_isMember sc i).mpr ⟨hi, hw⟩)
      exact State.isMember_of_mem (by rw [hduty]; exact List.mem_append_left _ hx)
    · rw [hduty, List.mem_append, List.mem_map] at hx
      rcases hx with hx | ⟨i, -, rfl⟩
      · have hold := ((s.prepared_isMember sc x.fan).mp (State.isMember_of_mem hx)).1
        rw [hnew] at hold
        exact absurd hold (by decide)
      · rfl
    · rw [hshort, decide_eq_true_eq, hrequired, hduty, joinAll_duty]
    · rw [hduty, List.mem_append, List.mem_map] at hx
      rcases hx with hx | ⟨i, hi, rfl⟩
      · exact State.prepared_fits hx
      · exact State.candidate_fits .full hi

end Sys2Proof.Machine
end

section
/-! RESTORE (R117): what a placing makes of its fan, what a taken request adds around its own work, and the statement. -/

namespace Sys2Proof.Machine

/-! ### The link through a loss and a placing -/

@[simp] theorem State.reportLoss_link (s : State) (i : Nat) : (s.reportLoss i).link = s.link :=
  ite_keeps (P := fun t : State => t.link = s.link)
    ((State.evaluate_link _).trans (State.removeMember_link s i)) rfl

theorem State.enterHolding_link (s : State) (i : Nat) (dest : FanState) (fault : Option LastFault)
    (hd : dest.isHolding = true) : (s.enterHolding i dest fault).link = s.link :=
  (State.reportLoss_link _ i).trans (State.holdFan_held s i dest fault hd).link

theorem State.enterQueued_rest (s : State) (i : Nat) (d : Direction) (c : DemandClass) :
    (s.enterQueued i d c).line = s.line ∧ (s.enterQueued i d c).events = s.events ∧
      (s.enterQueued i d c).link = s.link := State.requestStart_rest _ i d c

theorem State.toIdle_rest (s : State) (i : Nat) :
    (s.toIdle i).line = s.line ∧ (s.toIdle i).events = s.events ∧ (s.toIdle i).link = s.link := by
  unfold State.toIdle
  dsimp only
  split
  · exact State.enterQueued_rest ..
  · exact ⟨rfl, rfl, rfl⟩

/-- A placing sends nothing (R109). -/
theorem State.placeFan_link (s : State) (i : Nat) : (s.placeFan i).link = s.link := by
  unfold State.placeFan State.tripFan
  simp only [State.loseFan_false]
  split
  · exact State.enterHolding_link s i _ _ rfl
  split
  · exact State.enterHolding_link s i _ _ rfl
  split
  · exact State.enterHolding_link s i _ _ (by split <;> rfl)
  split
  · exact (s.toIdle_rest i).2.2
  · rfl

/-! ### An entry to a holding state -/

theorem State.holdFan_fanCount (s : State) (i : Nat) (dest : FanState) (fault : Option LastFault) :
    (s.holdFan i dest fault).fanCount = s.fanCount :=
  (State.FieldWork.holdFan s i dest fault).fanCount.trans (List.length_modify ..)

/-- The record of a fan after its entry to a holding state with its report (R54, R113). -/
theorem State.enterHolding_record (s : State) (i : Nat) (dest : FanState) (fault : Option LastFault)
    (hi : i < s.fanCount) (hd : dest.isHolding = true) :
    (s.enterHolding i dest fault).fan i = { (s.fan i).heldIn dest fault s.feedbackAllowance with
      demand := if s.isMember i then .none else (s.fan i).demand } := by
  have hfan := (State.holdFan_held s i dest fault hd).fan hi
  have hmember : (s.holdFan i dest fault).isMember i = s.isMember i :=
    State.isMember_congr (by rw [State.holdFan_line]) i
  obtain ⟨hlost, -, -⟩ := State.reportLoss_lost (s.holdFan i dest fault) i (by rw [hfan]; exact hd)
    (by rw [State.holdFan_fanCount]; exact hi)
  unfold State.enterHolding
  rw [hlost, hmember, hfan]
  split <;> rfl

/-- An entry of a fan that is no member, its report changing nothing (R69). -/
theorem State.enterHolding_of_not_member (s : State) (i : Nat) (dest : FanState) (fault : Option LastFault)
    (hm : s.isMember i = false) : s.enterHolding i dest fault = s.holdFan i dest fault := by
  have hmember : (s.holdFan i dest fault).isMember i = false :=
    (State.isMember_congr (by rw [State.holdFan_line]) i).trans hm
  exact if_neg (by rw [hmember]; decide)

/-! ### Placings -/

/-- The record of a fan that enters QUEUED: it waits, or is started at once (R97, R98, R134). -/
theorem State.enterQueued_record (s : State) (i : Nat) (d : Direction) (c : DemandClass) (hi : i < s.fanCount) :
    (s.enterQueued i d c).fan i = { s.fan i with state := .queued } ∨
      ∃ x, (s.enterQueued i d c).fan i = { s.fan i with state := .queued }.start x (s.startTime i) := by
  have hstarts := State.OnlyStarts.requestStart (s.modifyFan i (fun f => { f with state := .queued })) i d c
  have hself := State.fan_modifyFan_self s i (fun f => { f with state := .queued }) hi
  rcases hstarts.2 i with h | ⟨-, x, h⟩
  · exact .inl (h.trans hself)
  · exact .inr ⟨x, h.trans (by rw [hself]; rfl)⟩

theorem State.enterQueued_others (s : State) (i : Nat) (d : Direction) (c : DemandClass) :
    s.OthersOnlyStart i (s.enterQueued i d c) := by
  intro j hj
  have h := (State.OnlyStarts.requestStart (s.modifyFan i (fun f => { f with state := .queued })) i d c).2 j
  rw [State.fan_modifyFan_ne s i j _ hj] at h
  exact h

theorem State.modifyFan_others (s : State) (i : Nat) (f : Fan → Fan) : s.OthersOnlyStart i (s.modifyFan i f) :=
  fun j hj => .inl (State.fan_modifyFan_ne s i j f hj)

/-- All that the placing of a fan with LOCKOUT and TRIP clear can do (R109). -/
theorem State.placeFan_cases (s : State) (i : Nat) (hi : i < s.fanCount) (hl : (s.fan i).lockout = false)
    (ht : (s.fan i).trip = false) :
    (s.fan i).iso = true ∧ s.placeFan i = s.enterHolding i .isolated none ∨
    (s.fan i).iso = false ∧ s.onDeadFeeder i = true ∧ s.placeFan i = s.enterHolding i .unpowered none ∨
    ((s.fan i).iso = false ∧ s.onDeadFeeder i = false) ∧
      ((s.fan i).coastTimer < s.coastTime i ∧ s.placeFan i = s.modifyFan i (fun f => { f with state := .coasting }) ∨
      s.coastTime i ≤ (s.fan i).coastTimer ∧
        ((s.fan i).demand = .none ∧ s.placeFan i = s.modifyFan i (fun f => { f with state := .idle }) ∨
        ∃ d c, (s.fan i).demand = .run d c ∧ s.placeFan i = s.enterQueued i d c)) := by
  have hplaced := s.placeFan_placed i hi
  cases hiso : (s.fan i).iso
  · cases hdead : s.onDeadFeeder i
    · refine .inr (.inr ⟨⟨rfl, rfl⟩, ?_⟩)
      rcases Nat.lt_or_ge (s.fan i).coastTimer (s.coastTime i) with hcoast | hcoast
      · exact .inl ⟨hcoast, hplaced.coasting hiso hl hdead ht hcoast⟩
      · refine .inr ⟨hcoast, ?_⟩
        cases hdemand : (s.fan i).demand with
        | none => exact .inl ⟨rfl, hplaced.idle hiso hl hdead ht hcoast hdemand⟩
        | run d c =>
          refine .inr ⟨d, c, rfl, ?_⟩
          have hidle : s.placeFan i = s.toIdle i := by
            simp [State.placeFan, hiso, hl, hdead, ht, State.coastExpired, hcoast]
          have hd : ((s.modifyFan i (fun f => { f with state := .idle })).fan i).demand = .run d c := by
            rw [State.fan_modifyFan_self s i _ hi]
            exact hdemand
          rw [hidle]
          unfold State.toIdle State.enterQueued
          dsimp only
          rw [hd]
          dsimp only
          rw [State.modifyFan_modifyFan]
    · exact .inr (.inl ⟨rfl, rfl, by simp [State.placeFan, hiso, hl, hdead]⟩)
  · exact .inl ⟨rfl, by simp [State.placeFan, hiso]⟩

section
variable {s : State} {i : Nat} (hi : i < s.fanCount) (hl : (s.fan i).lockout = false) (ht : (s.fan i).trip = false)
include hi hl ht

/-- A placing that loses no member touches the fans and feeders alone, and leaves the fan's demand (R109). -/
theorem State.placeFan_quiet (hq : ¬ (s.isMember i = true ∧ ((s.fan i).iso = true ∨ s.onDeadFeeder i = true))) :
    (s.placeFan i).line = s.line ∧ (s.placeFan i).events = s.events ∧
      ((s.placeFan i).fan i).demand = (s.fan i).demand ∧ s.OthersOnlyStart i (s.placeFan i) := by
  have holding : ∀ dest : FanState, dest.isHolding = true → dest ≠ .tripped → dest ≠ .failed → s.isMember i = false →
      (s.enterHolding i dest none).line = s.line ∧ (s.enterHolding i dest none).events = s.events ∧
        ((s.enterHolding i dest none).fan i).demand = (s.fan i).demand ∧
        s.OthersOnlyStart i (s.enterHolding i dest none) := by
    intro dest hd h1 h2 hm
    have hheld := State.holdFan_held s i dest none hd
    rw [s.enterHolding_of_not_member i dest none hm]
    exact ⟨hheld.line, hheld.noFault h1 h2, by rw [hheld.fan hi]; rfl, hheld.others⟩
  rcases s.placeFan_cases i hi hl ht with ⟨hiso, h⟩ | ⟨hiso, hdead, h⟩ | ⟨-, ⟨-, h⟩ | ⟨-, ⟨-, h⟩ | ⟨d, c, hd, h⟩⟩⟩ <;>
    rw [h]
  · exact holding .isolated rfl nofun nofun (by simpa [hiso] using hq)
  · exact holding .unpowered rfl nofun nofun (by simpa [hdead] using hq)
  · exact ⟨rfl, rfl, by rw [State.fan_modifyFan_self s i _ hi], s.modifyFan_others i _⟩
  · exact ⟨rfl, rfl, by rw [State.fan_modifyFan_self s i _ hi], s.modifyFan_others i _⟩
  · obtain ⟨hline, hevents, -⟩ := s.enterQueued_rest i d c
    refine ⟨hline, hevents, ?_, s.enterQueued_others i d c⟩
    rcases s.enterQueued_record i d c hi with h | ⟨x, h⟩ <;> rw [h]
    rfl

/-- A placing in a holding state takes a member out of the duty set with its demand (R54, R69, R109). -/
theorem State.placeFan_lost (hm : s.isMember i = true) (hq : (s.fan i).iso = true ∨ s.onDeadFeeder i = true) :
    (s.placeFan i).isMember i = false ∧ ((s.placeFan i).fan i).demand = .none := by
  have holding : ∀ dest : FanState, dest.isHolding = true →
      (s.enterHolding i dest none).isMember i = false ∧ ((s.enterHolding i dest none).fan i).demand = .none := by
    intro dest hd
    obtain ⟨-, -, -, -, -, -, hdemand, hmember⟩ := s.enterHolding_fan i dest none hi hd
    exact ⟨hmember, by rw [hdemand, if_pos hm]⟩
  rcases s.placeFan_cases i hi hl ht with ⟨-, h⟩ | ⟨-, -, h⟩ | ⟨⟨hiso, hdead⟩, -⟩
  · rw [h]; exact holding .isolated rfl
  · rw [h]; exact holding .unpowered rfl
  · simp [hiso, hdead] at hq

/-- The state in which a placing leaves its fan (R109). -/
theorem State.placeFan_state :
    ((s.fan i).iso = true → ((s.placeFan i).fan i).state = .isolated) ∧
    ((s.fan i).iso = false → s.onDeadFeeder i = true → ((s.placeFan i).fan i).state = .unpowered) ∧
    ((s.fan i).iso = false → s.onDeadFeeder i = false → (s.fan i).coastTimer < s.coastTime i →
      ((s.placeFan i).fan i).state = .coasting ∧ ((s.placeFan i).fan i).coastTimer = (s.fan i).coastTimer) ∧
    ((s.fan i).iso = false → s.onDeadFeeder i = false → s.coastTime i ≤ (s.fan i).coastTimer →
      (s.fan i).demand = .none → ((s.placeFan i).fan i).state = .idle) ∧
    ((s.fan i).iso = false → s.onDeadFeeder i = false → s.coastTime i ≤ (s.fan i).coastTimer →
      (s.fan i).demand ≠ .none → ((s.placeFan i).fan i).state = .queued ∨ ((s.placeFan i).fan i).run = true ∧
        ∃ d, ((s.placeFan i).fan i).state = .starting d (.ramp (s.startTime i))) := by
  have holding := fun dest hd => s.enterHolding_record i dest none hi hd
  rcases s.placeFan_cases i hi hl ht with
    ⟨hiso, h⟩ | ⟨hiso, hdead, h⟩ | ⟨⟨hiso, hdead⟩, ⟨hcoast, h⟩ | ⟨hcoast, ⟨hd, h⟩ | ⟨d, c, hd, h⟩⟩⟩ <;> rw [h]
  · simp [hiso, holding .isolated rfl, Fan.heldIn]
  · simp [hiso, hdead, holding .unpowered rfl, Fan.heldIn]
  · simp [hiso, hdead, hcoast, State.fan_modifyFan_self s i _ hi]
  · simp [hiso, hdead, hcoast, hd, State.fan_modifyFan_self s i _ hi]
  · simp only [hiso, hdead, hcoast, hd, Nat.not_lt.mpr hcoast]
    rcases s.enterQueued_record i d c hi with h | ⟨x, h⟩ <;> simp [h, Fan.start]

/-- The stuck-running timer of a placed fan with RUN off: it stays, or ends where the fan is started (R98, R106). -/
theorem State.placeFan_stuckTimer (hr : (s.fan i).run = false) :
    (((s.placeFan i).fan i).run = false → ((s.placeFan i).fan i).stuckTimer = (s.fan i).stuckTimer) ∧
    (((s.placeFan i).fan i).run = true → ((s.placeFan i).fan i).stuckTimer = none) := by
  have holding := fun dest hd => s.enterHolding_record i dest none hi hd
  rcases s.placeFan_cases i hi hl ht with ⟨-, h⟩ | ⟨-, -, h⟩ | ⟨-, ⟨-, h⟩ | ⟨-, ⟨-, h⟩ | ⟨d, c, -, h⟩⟩⟩ <;> rw [h]
  · simp [holding .isolated rfl, Fan.heldIn, hr]
  · simp [holding .unpowered rfl, Fan.heldIn, hr]
  · simp [State.fan_modifyFan_self s i _ hi, hr]
  · simp [State.fan_modifyFan_self s i _ hi, hr]
  · rcases s.enterQueued_record i d c hi with h | ⟨x, h⟩ <;> simp [h, Fan.start, hr]

end

/-! ### A taken request -/

/-- A fan request's frame is taken, its work done and its reply queued: the frame of its work is that of the whole
(R163, R164). -/
theorem State.FieldWork.replied {s x : State} {i : Nat} {f : Fan → Fan} (r : Reply)
    (h : State.FieldWork (State.modifyFan { s with link := s.link.goodFrame } i f) x) :
    State.FieldWork ((s.replied r).modifyFan i f) (appendReply (x, r)).settle := by
  have hlink : (s.replied r).link.core = s.link.goodFrame.core := by
    simp [State.replied, ControlLink.core, ControlLink.goodFrame, Watchdog.frame_eq]
  refine State.FieldWork.after (State.FieldWork.settle _) { h with link := ?_ }
  exact h.link.trans hlink.symm

/-- The transmit queue after a taken request that sent nothing itself: the reply, and at most an ATTENTION behind it
(R164, R166). -/
theorem appendReply_sends (x : State) (r : Reply) : (appendReply (x, r)).settle.Sends (x.link.tx ++ [r]) :=
  State.settle_sends (appendReply (x, r))

/-! ### What RESTORE does -/

/-- A fan with the fault history that RESTORE clears (R117). -/
def Fan.pardoned (f : Fan) : Fan := { f with lockout := false, restartUsed := false, exposure := 0, expired := false }

/-- Fan `i` and its member record with the fault history cleared (R30, R117). -/
def State.pardoned (s : State) (i : Nat) : State :=
  (s.modifyFan i Fan.pardoned).setDuty (s.line.duty.map (unexpireMember i))

/-- The stuck-running timer with which a fan leaves FAILED (R106). -/
def Fan.resumed (f : Fan) (allowance : Nat) : Fan :=
  { f with stuckTimer := if f.state = .failed ∧ f.fb = true ∧ f.run = false then some allowance else f.stuckTimer }

theorem State.resumeStuckTimer_eq (s : State) (i : Nat) :
    s.resumeStuckTimer i = s.modifyFan i (fun f => f.resumed s.feedbackAllowance) := by
  refine congrArg (s.modifyFan i) (funext fun f => ?_)
  unfold Fan.resumed
  split <;> rfl

/-- A change that leaves the record of fan `i` as it stands changes nothing. -/
theorem State.modifyFan_eq_self (s : State) (i : Nat) (f : Fan → Fan) (h : i < s.fanCount → f (s.fan i) = s.fan i) :
    s.modifyFan i f = s := by
  rcases Nat.lt_or_ge i s.fanCount with hlt | hge
  · have hself : s.fans.modify i f = s.fans := by
      rw [List.modify_eq_set_get f hlt]
      have hget : s.fan i = s.fans[i] := List.getD_eq_getElem s.fans Fan.afterReset hlt
      rw [show f (s.fans.get ⟨i, hlt⟩) = s.fans[i] from hget ▸ h hlt]
      exact List.set_getElem_self ..
    simp [State.modifyFan, hself]
  · exact s.modifyFan_none i f hge

/-- A fan that is not FAILED starts no timer as it leaves its state (R106). -/
theorem State.resumeStuckTimer_of_not_failed (s : State) (i : Nat) (h : (s.fan i).state ≠ .failed) :
    s.resumeStuckTimer i = s :=
  s.modifyFan_eq_self i _ fun _ => if_neg fun hf => h hf.1

/-- Fan `i` is TRIPPED or FAILED, or ISOLATED with ISO inactive: RESTORE takes it out of its state (R110, R117). -/
def Fan.leaves (f : Fan) : Prop := (f.state = .tripped ∨ f.state = .failed) ∨ f.state = .isolated ∧ f.iso = false

theorem State.pardoned_fan (s : State) (i : Nat) (hi : i < s.fanCount) :
    (s.pardoned i).fan i = (s.fan i).pardoned := State.fan_modifyFan_self s i Fan.pardoned hi

/-- The state from which RESTORE places fan `i`: pardoned, and with the timer with which it leaves FAILED. -/
def State.readied (s : State) (i : Nat) : State := (s.pardoned i).resumeStuckTimer i

theorem State.restoreFan_eq (s : State) (i : Nat) (hi : i < s.fanCount) : s.restoreFan i =
    if (s.fan i).state = .tripped ∨ (s.fan i).state = .failed then (s.readied i).placeFan i
    else if (s.fan i).state = .isolated ∧ (s.fan i).iso = false then (s.pardoned i).placeFan i
    else s.pardoned i := by
  have hrestore : s.restoreFan i =
      if ((s.pardoned i).fan i).state = .tripped ∨ ((s.pardoned i).fan i).state = .failed then
        (s.readied i).placeFan i
      else if ((s.pardoned i).fan i).state = .isolated ∧ ((s.pardoned i).fan i).iso = false then
        (s.pardoned i).placeFan i
      else s.pardoned i := rfl
  rw [hrestore, s.pardoned_fan i hi]
  rfl

/-- A fan that leaves its state is placed, with the timer it leaves with (R117). -/
theorem State.restoreFan_leaves (s : State) (i : Nat) (hi : i < s.fanCount) (h : (s.fan i).leaves) :
    s.restoreFan i = (s.readied i).placeFan i := by
  rw [s.restoreFan_eq i hi]
  rcases h with h | h
  · exact if_pos h
  · have hstate : ((s.pardoned i).fan i).state = .isolated := by rw [s.pardoned_fan i hi]; exact h.1
    rw [if_neg (by simp [h.1]), if_pos h, State.readied, State.resumeStuckTimer_of_not_failed _ i (by simp [hstate])]

/-- Any other fan stays in its state (R117). -/
theorem State.restoreFan_stays (s : State) (i : Nat) (hi : i < s.fanCount) (h : ¬ (s.fan i).leaves) :
    s.restoreFan i = s.pardoned i := by
  rw [s.restoreFan_eq i hi, if_neg fun hf => h (.inl hf), if_neg fun hf => h (.inr hf)]

/-- The state from which RESTORE places a fan, in one change of the line and one of the fan. -/
theorem State.readied_eq (s : State) (i : Nat) : s.readied i =
    State.modifyFan { s with line := { s.line with duty := s.line.duty.map (unexpireMember i) } } i
      (fun f => f.pardoned.resumed s.feedbackAllowance) := by
  rw [State.readied, State.resumeStuckTimer_eq]
  exact State.modifyFan_modifyFan { s with line := { s.line with duty := s.line.duty.map (unexpireMember i) } } i
    Fan.pardoned (fun f => f.resumed s.feedbackAllowance)

theorem State.readied_fan (s : State) (i : Nat) (hi : i < s.fanCount) :
    (s.readied i).fan i = (s.fan i).pardoned.resumed s.feedbackAllowance := by
  rw [State.readied_eq]
  exact State.fan_modifyFan_self { s with line := { s.line with duty := s.line.duty.map (unexpireMember i) } } i _ hi

theorem State.readied_fanCount (s : State) (i : Nat) : (s.readied i).fanCount = s.fanCount := by
  rw [State.readied_eq]
  exact State.modifyFan_fanCount _ _ _

theorem State.readied_isMember (s : State) (i j : Nat) : (s.readied i).isMember j = s.isMember j := by
  have hfan : ∀ x : Member, (unexpireMember i x).fan = x.fan := fun x =>
    ite_keeps (P := fun y : Member => y.fan = x.fan) rfl rfl
  rw [State.readied_eq]
  simp [State.isMember, hfan, Function.comp_def]

/-- RESTORE is work of the frame on the pardoned fan (R117). -/
theorem State.FieldWork.restoreFan (s : State) (i : Nat) (hi : i < s.fanCount) (ht : (s.fan i).trip = false) :
    State.FieldWork (s.modifyFan i Fan.pardoned) (s.restoreFan i) := by
  have hpardoned : State.FieldWork (s.modifyFan i Fan.pardoned) (s.pardoned i) := State.FieldWork.setDuty _ _
  by_cases h : (s.fan i).leaves
  · rw [s.restoreFan_leaves i hi h]
    have hresumed : State.FieldWork (s.pardoned i) (s.readied i) := by
      rw [State.readied, State.resumeStuckTimer_eq]
      exact State.FieldWork.modifyFan _ i _ fun _ => ⟨rfl, rfl, rfl, rfl, rfl, rfl, rfl, rfl⟩
    refine (hpardoned.trans hresumed).trans (State.FieldWork.placeFan _ i ?_)
    rw [s.readied_fan i hi]
    exact ht
  · rw [s.restoreFan_stays i hi h]
    exact hpardoned

theorem State.restoreFan_link (s : State) (i : Nat) : (s.restoreFan i).link = s.link := by
  unfold State.restoreFan
  dsimp only
  split
  · exact State.placeFan_link _ i
  · exact ite_keeps (P := fun t : State => t.link = s.link) (State.placeFan_link _ i) rfl

section
variable {s : State} {i : Nat} (hi : i < s.fanCount) (ht : (s.fan i).trip = false)
include hi ht

/-- What a readied fan's placing reads: its count, LOCKOUT and TRIP. -/
theorem State.readied_placeable : i < (s.readied i).fanCount ∧ ((s.readied i).fan i).lockout = false ∧
    ((s.readied i).fan i).trip = false := by
  rw [s.readied_fan i hi, s.readied_fanCount i]
  exact ⟨hi, rfl, ht⟩

/-- A RESTORE that loses no member touches the member record, the fans and the feeders alone (R117). -/
theorem State.restoreFan_quiet (hq : ¬ ((s.fan i).leaves ∧ s.isMember i = true ∧
      ((s.fan i).iso = true ∨ s.onDeadFeeder i = true))) :
    (s.restoreFan i).line = { s.line with duty := s.line.duty.map (unexpireMember i) } ∧
      (s.restoreFan i).events = s.events ∧ ((s.restoreFan i).fan i).demand = (s.fan i).demand ∧
      s.OthersOnlyStart i (s.restoreFan i) := by
  by_cases h : (s.fan i).leaves
  · obtain ⟨hcount, hlockout, htrip⟩ := State.readied_placeable hi ht
    have hkept : ¬ ((s.readied i).isMember i = true ∧
        (((s.readied i).fan i).iso = true ∨ (s.readied i).onDeadFeeder i = true)) := by
      rw [s.readied_isMember, s.readied_fan i hi]
      exact fun hlost => hq ⟨h, hlost⟩
    obtain ⟨hline, hevents, hdemand, hothers⟩ := State.placeFan_quiet hcount hlockout htrip hkept
    rw [s.restoreFan_leaves i hi h]
    refine ⟨hline, hevents, by rw [hdemand, s.readied_fan i hi]; rfl, fun j hj => ?_⟩
    have hsame : (s.readied i).fan j = s.fan j := by
      rw [s.readied_eq i]
      exact State.fan_modifyFan_ne _ _ _ _ hj
    have hother := hothers j hj
    rw [hsame] at hother
    exact hother
  · rw [s.restoreFan_stays i hi h]
    exact ⟨rfl, rfl, by rw [s.pardoned_fan i hi]; rfl, s.modifyFan_others i Fan.pardoned⟩

/-- A RESTORE that places a member in a holding state takes it out of the duty set (R69, R109). -/
theorem State.restoreFan_lost (h : (s.fan i).leaves) (hm : s.isMember i = true)
    (hq : (s.fan i).iso = true ∨ s.onDeadFeeder i = true) :
    (s.restoreFan i).isMember i = false ∧ ((s.restoreFan i).fan i).demand = .none := by
  obtain ⟨hcount, hlockout, htrip⟩ := State.readied_placeable hi ht
  rw [s.restoreFan_leaves i hi h]
  exact State.placeFan_lost hcount hlockout htrip ((s.readied_isMember i i).trans hm)
    (by rw [s.readied_fan i hi]; exact hq)

/-- Where RESTORE leaves a fan that it takes out of its state (R109, R117). -/
theorem State.restoreFan_state (h : (s.fan i).leaves) :
    ((s.fan i).iso = true → ((s.restoreFan i).fan i).state = .isolated) ∧
    ((s.fan i).iso = false → s.onDeadFeeder i = true → ((s.restoreFan i).fan i).state = .unpowered) ∧
    ((s.fan i).iso = false → s.onDeadFeeder i = false → (s.fan i).coastTimer < s.coastTime i →
      ((s.restoreFan i).fan i).state = .coasting ∧ ((s.restoreFan i).fan i).coastTimer = (s.fan i).coastTimer) ∧
    ((s.fan i).iso = false → s.onDeadFeeder i = false → s.coastTime i ≤ (s.fan i).coastTimer →
      (s.fan i).demand = .none → ((s.restoreFan i).fan i).state = .idle) ∧
    ((s.fan i).iso = false → s.onDeadFeeder i = false → s.coastTime i ≤ (s.fan i).coastTimer →
      (s.fan i).demand ≠ .none → ((s.restoreFan i).fan i).state = .queued ∨ ((s.restoreFan i).fan i).run = true ∧
        ∃ d, ((s.restoreFan i).fan i).state = .starting d (.ramp (s.startTime i))) := by
  obtain ⟨hcount, hlockout, htrip⟩ := State.readied_placeable hi ht
  have hstate := State.placeFan_state hcount hlockout htrip
  rw [s.readied_fan i hi] at hstate
  rw [s.restoreFan_leaves i hi h]
  exact hstate

/-- The placing of a restored fan that is taken out of its state, whole (R109, R117). -/
theorem State.restoreFan_placed (h : (s.fan i).leaves) : State.Placed
    (State.modifyFan { s with line := { s.line with duty := s.line.duty.map (unexpireMember i) } } i
      (fun f => f.pardoned.resumed s.feedbackAllowance)) i (s.restoreFan i) := by
  rw [s.restoreFan_leaves i hi h, ← s.readied_eq]
  exact (s.readied i).placeFan_placed i (State.readied_placeable hi ht).1

/-- The stuck-running timer of a restored fan with RUN off: fresh on leaving FAILED with FB active, else as it was, and
none for a fan started at once (R98, R106). -/
theorem State.restoreFan_stuckTimer (hr : (s.fan i).run = false) :
    (((s.restoreFan i).fan i).run = false → ((s.restoreFan i).fan i).stuckTimer =
      if (s.fan i).state = .failed ∧ (s.fan i).fb = true then some s.feedbackAllowance else (s.fan i).stuckTimer) ∧
    (((s.restoreFan i).fan i).run = true → ((s.restoreFan i).fan i).stuckTimer = none) := by
  by_cases h : (s.fan i).leaves
  · obtain ⟨hcount, hlockout, htrip⟩ := State.readied_placeable hi ht
    have hplaced := State.placeFan_stuckTimer hcount hlockout htrip
    have htimer : ((s.fan i).pardoned.resumed s.feedbackAllowance).stuckTimer =
        if (s.fan i).state = .failed ∧ (s.fan i).fb = true then some s.feedbackAllowance
        else (s.fan i).stuckTimer := by
      simp [Fan.resumed, Fan.pardoned, hr]
    rw [s.readied_fan i hi, htimer] at hplaced
    rw [s.restoreFan_leaves i hi h]
    exact hplaced hr
  · have hstate : (s.fan i).state ≠ .failed := fun hf => h (.inl (.inr hf))
    rw [s.restoreFan_stays i hi h, s.pardoned_fan i hi]
    simp [Fan.pardoned, hr, hstate]

end

/-! ### The request -/

theorem Fan.restorable_iff (f : Fan) : f.restorable = true ↔
    (f.state = .tripped ∨ f.state = .failed) ∨ f.lockout = true ∨ f.expired = true := by
  simp [Fan.restorable, or_assoc]

/-- RESTORE with a payload of one byte, while an image is in use (R117, R164). -/
theorem serveRestore_byte (s : State) (fan : Byte) (hm : s.line.mode = .normal ∨ s.line.mode = .fire) :
    serveRestore [fan] s = if s.fanCount ≤ fan.toNat then (s, .refuse 0x22 .range)
      else if !(s.fan fan.toNat).restorable || (s.fan fan.toNat).trip then (s, .refuse 0x22 .state)
      else (s.restoreFan fan.toNat, .accept 0x22) := by
  have himage : s.noImage = false := by rcases hm with h | h <;> simp [State.noImage, h]
  unfold serveRestore withImage
  rw [if_neg (by simp [himage])]
  rfl

section
variable {s : State} {fan : Byte} (hs : s.CanTake) (hm : s.line.mode = .normal ∨ s.line.mode = .fire)
include hs hm

/-- RESTORE of a fan outside the fan count is refused (R117). -/
theorem exec_restore_range (h : s.fanCount ≤ fan.toNat) :
    exec (.restore [fan]) s = .next (s.replied (.refuse 0x22 .range)) :=
  congrArg _ (receiveRequest_unchanged 1 (serveRestore [fan]) s _ (by decide) hs
    ((serveRestore_byte { s with link := s.link.goodFrame } fan hm).trans (if_pos h)))

/-- RESTORE of a fan that has nothing to restore or whose TRIP is active is refused (R117). -/
theorem exec_restore_state (hi : fan.toNat < s.fanCount)
    (h : ¬ (s.fan fan.toNat).restorable = true ∨ (s.fan fan.toNat).trip = true) :
    exec (.restore [fan]) s = .next (s.replied (.refuse 0x22 .state)) :=
  congrArg _ (receiveRequest_unchanged 1 (serveRestore [fan]) s _ (by decide) hs
    ((serveRestore_byte { s with link := s.link.goodFrame } fan hm).trans ((if_neg (Nat.not_le.mpr hi)).trans
      (if_pos (show (!(s.fan fan.toNat).restorable || (s.fan fan.toNat).trip) = true by simpa using h)))))

/-- RESTORE taken: the fan restored, then the reply (R117, R164). -/
theorem exec_restore_taken (hi : fan.toNat < s.fanCount) (h : (s.fan fan.toNat).restorable = true)
    (ht : (s.fan fan.toNat).trip = false) : exec (.restore [fan]) s = .next
      (appendReply (State.restoreFan { s with link := s.link.goodFrame } fan.toNat, .accept 0x22)).settle := by
  have hserve : serveRestore [fan] { s with link := s.link.goodFrame } =
      (State.restoreFan { s with link := s.link.goodFrame } fan.toNat, .accept 0x22) :=
    (serveRestore_byte { s with link := s.link.goodFrame } fan hm).trans ((if_neg (Nat.not_le.mpr hi)).trans
      (if_neg (show ¬ (!(s.fan fan.toNat).restorable || (s.fan fan.toNat).trip) = true by simp [h, ht])))
  exact congrArg _ ((receiveRequest_taken 1 (serveRestore [fan]) s (by decide) hs).trans (by rw [hserve]))

end

/-- Settles O40: the refusals by the checks in their order; taken, by what the placing of the readied fan can do. -/
theorem restoreClearsTheFan : Obligations.RestoreClearsTheFan := by
  intro s fan hs hmode
  refine ⟨exec_restore_range hs hmode, fun hi hrefused => exec_restore_state hs hmode hi ?_,
    fun hi hrestorable htrip => ?_⟩
  · rwa [Fan.restorable_iff]
  let base : State := { s with link := s.link.goodFrame }
  have hlink := base.restoreFan_link fan.toNat
  have hwork := State.FieldWork.restoreFan base fan.toNat hi htrip
  have hexec := exec_restore_taken hs hmode hi ((Fan.restorable_iff _).mpr hrestorable) htrip
  have hquiet := State.restoreFan_quiet (s := base) hi htrip
  have hlost := State.restoreFan_lost (s := base) hi htrip
  have hstate := State.restoreFan_state (s := base) hi htrip
  have htimer := State.restoreFan_stuckTimer (s := base) hi htrip
  have hplaced := State.restoreFan_placed (s := base) hi htrip
  have hstays := base.restoreFan_stays fan.toNat hi
  change exec (.restore [fan]) s = .next (appendReply (base.restoreFan fan.toNat, .accept 0x22)).settle at hexec
  generalize base.restoreFan fan.toNat = x at *
  have hfan : ∀ j, (appendReply (x, .accept 0x22)).settle.fan j = x.fan j := fun _ => rfl
  have hmember : ∀ j, (appendReply (x, .accept 0x22)).settle.isMember j = x.isMember j := fun _ => rfl
  obtain ⟨hisolated, hstate⟩ := imp_and.mp hstate
  obtain ⟨hunpowered, hstate⟩ := imp_and.mp hstate
  obtain ⟨hcoasting, hstate⟩ := imp_and.mp hstate
  obtain ⟨hidle, hqueued⟩ := imp_and.mp hstate
  obtain ⟨hkept, hended⟩ := imp_and.mp htimer
  have hsends := appendReply_sends x (.accept 0x22)
  rw [hlink] at hsends
  refine ⟨_, hexec, State.FieldWork.replied (.accept 0x22) hwork, hsends, ?_⟩
  simp only [hfan, hmember]
  refine ⟨fun h => ?quiet, fun ⟨hleave, hm, h⟩ => hlost hleave hm h, fun hstay => ?stays,
    hisolated, hunpowered, hcoasting, hidle, hqueued, hkept, hended,
    fun h => ⟨x, ?placed, rfl, rfl, rfl, rfl, rfl, rfl⟩⟩
  case quiet =>
    obtain ⟨hline, hevents, hdemand, hothers⟩ := hquiet h
    have hask : (appendReply (x, .accept 0x22)).events.ask = false := (congrArg EventLatch.ask hevents).trans hs.2
    rw [State.settle_of_no_ask _ hask]
    exact ⟨congrArg (fun l : ControlLink => l.tx ++ [.accept 0x22]) hlink, hevents, hdemand, hline, hothers⟩
  case stays =>
    rw [hstays hstay, base.pardoned_fan fan.toNat hi]
    rfl
  case placed =>
    rw [hlink]
    exact hplaced h

end Sys2Proof.Machine
end

section
/-! The control-period boundary (Chapter 5): each step by what it makes of the state, then the statement. -/

namespace Sys2Proof.Machine

/-! ### Step 1: exposures and expiry (R71, R72) -/

/-- The record of fan `i` after step 1 of a boundary (R71, R72). -/
def State.exposedFan (s : State) (sc : Scenario) (i : Nat) : Fan :=
  if s.fanSide sc i = .hot then
    let exposure := min Config.count16Max ((s.fan i).exposure + s.controlPeriod)
    { s.fan i with
      exposure := exposure
      expired := (s.fan i).expired || decide (s.heatLimit i ≤ exposure) }
  else s.fan i

/-- The member record once its fan has newly expired (R30, R72). -/
def Member.expire (x : Member) : Member := { x with expired := true, counted := 0 }

/-- From `s` to `t` fans have only aged: exposures and expired flags have moved, no flag has been cleared, and the member
record and the FAN_EXPIRED kind follow each flag newly set (R30, R71, R72). -/
structure State.Aged (s t : State) : Prop where
  rest : t = { s with line := { s.line with duty := t.line.duty }, fans := t.fans, events := t.events }
  fanCount : t.fanCount = s.fanCount
  fan : ∀ i, t.fan i = { s.fan i with exposure := (t.fan i).exposure, expired := (t.fan i).expired }
  stays : ∀ i, (s.fan i).expired = true → (t.fan i).expired = true
  duty : t.line.duty = s.line.duty.map (fun x =>
    if (s.fan x.fan).expired = false ∧ (t.fan x.fan).expired = true then x.expire else x)
  mask : t.events.mask = s.events.mask
  levels : t.events.levels = s.events.levels
  grows : ∀ n, s.events.set.getLsbD n = true → t.events.set.getLsbD n = true
  kinds : ∀ k : EventKind, k ≠ .fanExpired → t.events.set.getLsbD k.bit = s.events.set.getLsbD k.bit
  shows : ∀ i, (s.fan i).expired = false → (t.fan i).expired = true → t.events.Shows .fanExpired

/-- A kind that shows goes on to show while the mask stays and the set only grows (R174). -/
theorem EventLatch.Shows.mono {e e' : EventLatch} {k : EventKind} (h : e.Shows k) (hm : e'.mask = e.mask)
    (hg : ∀ n, e.set.getLsbD n = true → e'.set.getLsbD n = true) : e'.Shows k :=
  fun hmask => hg _ (h (hm ▸ hmask))

theorem State.Aged.refl (s : State) : s.Aged s where
  rest := rfl
  fanCount := rfl
  fan _ := rfl
  stays _ h := h
  duty := by
    have hsame : ∀ x ∈ s.line.duty, (if (s.fan x.fan).expired = false ∧ (s.fan x.fan).expired = true
        then x.expire else x) = x := fun x _ => if_neg fun h => absurd (h.1.symm.trans h.2) (by decide)
    rw [List.map_congr_left hsame, List.map_id']
  mask := rfl
  levels := rfl
  grows _ h := h
  kinds _ _ := rfl
  shows i h h' := by rw [h] at h'; cases h'

theorem State.Aged.trans {s t u : State} (a : s.Aged t) (b : t.Aged u) : s.Aged u where
  rest := by
    have := b.rest
    rw [a.rest] at this
    exact this
  fanCount := b.fanCount.trans a.fanCount
  fan i := by rw [b.fan i, a.fan i]
  stays i h := b.stays i (a.stays i h)
  duty := by
    rw [b.duty, a.duty, List.map_map]
    refine List.map_congr_left fun x _ => ?_
    cases hs : (s.fan x.fan).expired
    · cases ht : (t.fan x.fan).expired
      · simp [hs, ht]
      · have hu := b.stays x.fan ht
        simp [hs, ht, hu, Member.expire]
    · have ht := a.stays x.fan hs
      simp [hs, ht]
  mask := b.mask.trans a.mask
  levels := b.levels.trans a.levels
  grows n h := b.grows n (a.grows n h)
  kinds k hk := (b.kinds k hk).trans (a.kinds k hk)
  shows i h h' := by
    cases ht : (t.fan i).expired
    · exact b.shows i ht h'
    · exact (a.shows i h ht).mono b.mask b.grows

section
variable {sc : Scenario} {s : State} {i : Nat}

theorem State.exposeFan_cold (h : s.fanSide sc i ≠ .hot) : State.exposeFan sc s i = s := if_neg h

variable (hi : i < s.fanCount) (hot : s.fanSide sc i = .hot)
include hi hot

/-- Step 1 for a hot-side fan that does not newly expire (R71). -/
theorem State.exposeFan_ages
    (h : ¬ (s.heatLimit i ≤ min Config.count16Max ((s.fan i).exposure + s.controlPeriod) ∧
      (s.fan i).expired = false)) : State.exposeFan sc s i =
    s.modifyFan i (fun f => { f with exposure := min Config.count16Max (f.exposure + s.controlPeriod) }) := by
  unfold State.exposeFan
  dsimp only
  rw [if_pos hot, State.fan_modifyFan_self s i _ hi]
  exact if_neg h

/-- Step 1 for a hot-side fan that newly expires (R72). -/
theorem State.exposeFan_expires
    (h : s.heatLimit i ≤ min Config.count16Max ((s.fan i).exposure + s.controlPeriod) ∧ (s.fan i).expired = false) :
    State.exposeFan sc s i = ((s.modifyFan i (fun f => { f with
      exposure := min Config.count16Max (f.exposure + s.controlPeriod), expired := true })).setDuty
        (s.line.duty.map (expireMember i))).raise .fanExpired := by
  unfold State.exposeFan
  dsimp only
  rw [if_pos hot, State.fan_modifyFan_self s i _ hi, State.modifyFan_modifyFan]
  exact if_pos h

end

/-- The record of a fan after its step 1 (R71, R72). -/
theorem State.exposeFan_self (sc : Scenario) (s : State) (i : Nat) (hi : i < s.fanCount) :
    (State.exposeFan sc s i).fan i = s.exposedFan sc i := by
  unfold State.exposedFan
  by_cases hot : s.fanSide sc i = .hot
  · rw [if_pos hot]
    by_cases h : s.heatLimit i ≤ min Config.count16Max ((s.fan i).exposure + s.controlPeriod) ∧ (s.fan i).expired = false
    · rw [State.exposeFan_expires hi hot h]
      refine (State.fan_modifyFan_self s i _ hi).trans ?_
      simp [h.1]
    · rw [State.exposeFan_ages hi hot h, State.fan_modifyFan_self s i _ hi]
      have hexpired : ((s.fan i).expired || decide (s.heatLimit i ≤
          min Config.count16Max ((s.fan i).exposure + s.controlPeriod))) = (s.fan i).expired := by
        cases he : (s.fan i).expired
        · simpa [he] using h
        · rfl
      simp only [hexpired]
  · rw [if_neg hot, State.exposeFan_cold hot]

/-- A fan whose exposure rises ages (R71). -/
theorem State.Aged.ageFan (s : State) (i period : Nat) :
    s.Aged (s.modifyFan i (fun f => { f with exposure := min Config.count16Max (f.exposure + period) })) := by
  let age : Fan → Fan := fun f => { f with exposure := min Config.count16Max (f.exposure + period) }
  have hexpired : ∀ j, ((s.modifyFan i age).fan j).expired = (s.fan j).expired := fun j =>
    State.fan_modifyFan_prop (P := fun f g => g.expired = f.expired) s i age (fun _ => rfl) (fun _ => rfl) j
  refine { State.Aged.refl s with
    rest := rfl
    fanCount := State.modifyFan_fanCount s i age
    fan := fun j => State.fan_modifyFan_prop
      (P := fun f g => g = { f with exposure := g.exposure, expired := g.expired }) s i age (fun _ => rfl) (fun _ => rfl) j
    stays := fun j hj => (hexpired j).trans hj
    duty := ?_
    shows := fun j hj hj' => absurd (hj.symm.trans ((hexpired j).symm.trans hj')) (by decide) }
  change s.line.duty = s.line.duty.map (fun x =>
    if (s.fan x.fan).expired = false ∧ ((s.modifyFan i age).fan x.fan).expired = true then x.expire else x)
  simp only [hexpired]
  exact (State.Aged.refl s).duty

/-- A fan that newly expires ages, its member record following and FAN_EXPIRED raised (R30, R72). -/
theorem State.Aged.expireFan (s : State) (i period : Nat) (hi : i < s.fanCount) (hfresh : (s.fan i).expired = false) :
    s.Aged (((s.modifyFan i (fun f => { f with
      exposure := min Config.count16Max (f.exposure + period), expired := true })).setDuty
        (s.line.duty.map (expireMember i))).raise .fanExpired) := by
  set t := ((s.modifyFan i (fun f => { f with
    exposure := min Config.count16Max (f.exposure + period), expired := true })).setDuty
      (s.line.duty.map (expireMember i))).raise .fanExpired
  have hself : t.fan i = { s.fan i with
      exposure := min Config.count16Max ((s.fan i).exposure + period), expired := true } :=
    State.fan_modifyFan_self s i _ hi
  have hother : ∀ j, j ≠ i → t.fan j = s.fan j := fun j hj => State.fan_modifyFan_ne s i j _ hj
  refine { State.Aged.refl s with
    rest := rfl
    fanCount := State.modifyFan_fanCount s i _
    fan := fun j => ?fan, stays := fun j hj => ?stays, duty := ?duty
    grows := fun n hn => EventLatch.latch_grows _ _ n hn
    kinds := fun k hk => EventLatch.raise_other _ _ _ hk
    shows := fun _ _ _ => EventLatch.raise_shows _ _ }
  case fan =>
    by_cases hj : j = i
    · rw [hj, hself]
    · rw [hother j hj]
  case stays =>
    by_cases hji : j = i
    · rw [hji, hself]
    · rw [hother j hji]
      exact hj
  case duty =>
    refine List.map_congr_left fun x _ => ?_
    by_cases hx : x.fan = i
    · rw [hx, hself, expireMember, if_pos hx, if_pos ⟨hfresh, rfl⟩]
      rfl
    · rw [hother x.fan hx, expireMember, if_neg hx,
        if_neg fun hnew => absurd (hnew.1.symm.trans hnew.2) (by decide)]

/-- Step 1 for one fan ages it, and touches no other (R71, R72). -/
theorem State.exposeFan_aged (sc : Scenario) (s : State) (i : Nat) (hi : i < s.fanCount) :
    s.Aged (State.exposeFan sc s i) ∧ ∀ j, j ≠ i → (State.exposeFan sc s i).fan j = s.fan j := by
  by_cases hot : s.fanSide sc i = .hot
  · by_cases h : s.heatLimit i ≤ min Config.count16Max ((s.fan i).exposure + s.controlPeriod) ∧ (s.fan i).expired = false
    · rw [State.exposeFan_expires hi hot h]
      exact ⟨State.Aged.expireFan s i _ hi h.2, fun j hj => State.fan_modifyFan_ne s i j _ hj⟩
    · rw [State.exposeFan_ages hi hot h]
      exact ⟨State.Aged.ageFan s i _, fun j hj => State.fan_modifyFan_ne s i j _ hj⟩
  · rw [State.exposeFan_cold hot]
    exact ⟨State.Aged.refl s, fun _ _ => rfl⟩

/-- What a fan's step 1 makes of its record reads the image and that record alone. -/
theorem State.exposedFan_congr {s t : State} (sc : Scenario) (i : Nat) (himage : t.image = s.image)
    (hfan : t.fan i = s.fan i) : t.exposedFan sc i = s.exposedFan sc i := by
  obtain ⟨hstatic, -, -, -, -, -, -, htunnel, -, hchainage, -⟩ := State.statics_congr himage
  have hside : t.fanSide sc i = s.fanSide sc i := by simp only [State.fanSide, hchainage]
  have hperiod : t.controlPeriod = s.controlPeriod := by simp only [State.controlPeriod, htunnel]
  have hlimit : t.heatLimit i = s.heatLimit i := by simp only [State.heatLimit, hstatic]
  rw [State.exposedFan, State.exposedFan, hfan, hside, hperiod, hlimit]

/-- Step 1 along a list that holds no fan twice (R71, R72). -/
theorem State.forEach_exposeFan (sc : Scenario) (s : State) (l : List Nat) (hl : ∀ i ∈ l, i < s.fanCount)
    (hnodup : l.Nodup) : s.Aged (forEach (State.exposeFan sc) s l) ∧
      ∀ i, (forEach (State.exposeFan sc) s l).fan i = if i ∈ l then s.exposedFan sc i else s.fan i := by
  induction l generalizing s with
  | nil => exact ⟨State.Aged.refl s, fun i => by simp [forEach]⟩
  | cons j js ih =>
    obtain ⟨hfresh, hnodup⟩ := List.nodup_cons.mp hnodup
    have hj : j < s.fanCount := hl j List.mem_cons_self
    obtain ⟨haged, hother⟩ := State.exposeFan_aged sc s j hj
    have himage : (State.exposeFan sc s j).image = s.image := by rw [haged.rest]
    obtain ⟨hrest, hfans⟩ := ih (State.exposeFan sc s j)
      (fun i hi => haged.fanCount.symm ▸ hl i (List.mem_cons_of_mem j hi)) hnodup
    refine ⟨haged.trans hrest, fun i => (hfans i).trans ?_⟩
    by_cases hij : i = j
    · subst hij
      rw [if_neg hfresh, if_pos List.mem_cons_self, State.exposeFan_self sc s i hj]
    · rw [State.exposedFan_congr sc i himage (hother i hij), hother i hij]
      simp [hij]

/-- Step 1, whole (R71, R72). -/
theorem State.exposeAll_spec (s : State) (sc : Scenario) :
    s.Aged (s.exposeAll sc) ∧ ∀ i, i < s.fanCount → (s.exposeAll sc).fan i = s.exposedFan sc i := by
  obtain ⟨haged, hfans⟩ := State.forEach_exposeFan sc s (List.range s.fanCount) (fun i hi => List.mem_range.mp hi)
    List.nodup_range
  exact ⟨haged, fun i hi => (hfans i).trans (if_pos (List.mem_range.mpr hi))⟩

/-! ### Steps 2 and 3: the pending values and the trim step (R78 to R85) -/

/-- Step 2, whole (R78, R79). -/
theorem Scenario.applyPending_eq (sc : Scenario) : sc.applyPending = { sc with
    target := sc.pendingTarget.getD sc.target
    pendingTarget := none
    fullThrust := sc.pendingFullThrust.getD sc.fullThrust
    pendingFullThrust := none
    lowCount := if sc.pendingTarget = none then sc.lowCount else 0
    highCount := if sc.pendingTarget = none then sc.highCount else 0 } := by
  obtain ⟨_, _, _, _, _, pendingTarget, _, pendingFull, _, _, _, _, _, _, _, _, _, _⟩ := sc
  cases pendingTarget <;> cases pendingFull <;> rfl

/-- The trim step moves t and the two counts alone (R85). -/
theorem Scenario.trimStep_rest (sc : Scenario) (vm : Int) (band : Nat) : sc.trimStep vm band = { sc with
    trim := (sc.trimStep vm band).trim
    lowCount := (sc.trimStep vm band).lowCount
    highCount := (sc.trimStep vm band).highCount } := by
  unfold Scenario.trimStep
  dsimp only
  split
  · split <;> rfl
  · split
    · split <;> rfl
    · rfl

/-- The trim step below the band (R85). -/
theorem Scenario.trimStep_below (sc : Scenario) (vm : Int) (band : Nat) (h : vm - sc.target < -(band : Int)) :
    (sc.lowCount = 0 → sc.trimStep vm band = { sc with lowCount := 1, highCount := 0 }) ∧
    (sc.lowCount = 1 → sc.trimStep vm band =
      { sc with trim := if sc.trim < 8 then sc.trim + 1 else sc.trim, lowCount := 0, highCount := 0 }) := by
  unfold Scenario.trimStep
  dsimp only
  rw [if_pos h]
  constructor <;> intro hcount <;> simp [hcount]

/-- The trim step above the band (R85). -/
theorem Scenario.trimStep_above (sc : Scenario) (vm : Int) (band : Nat) (h : (band : Int) < vm - sc.target) :
    (sc.highCount = 0 → sc.trimStep vm band = { sc with highCount := 1, lowCount := 0 }) ∧
    (sc.highCount = 1 → sc.trimStep vm band =
      { sc with trim := if -8 < sc.trim then sc.trim - 1 else sc.trim, highCount := 0, lowCount := 0 }) := by
  unfold Scenario.trimStep
  dsimp only
  rw [if_neg (by omega), if_pos h]
  constructor <;> intro hcount <;> simp [hcount]

/-- The trim step within the band (R85). -/
theorem Scenario.trimStep_within (sc : Scenario) (vm : Int) (band : Nat) (hlow : -(band : Int) ≤ vm - sc.target)
    (hhigh : vm - sc.target ≤ band) : sc.trimStep vm band = { sc with lowCount := 0, highCount := 0 } := by
  unfold Scenario.trimStep
  dsimp only
  rw [if_neg (by omega), if_neg (by omega)]

theorem FanState.isRunning_iff (f : FanState) : f.isRunning = true ↔ ∃ d, f = .running d := by
  cases f <;> simp [FanState.isRunning]

/-- The settled line (R83). -/
theorem State.settled_iff (s : State) (sc : Scenario) : s.settled sc = true ↔ s.line.duty ≠ [] ∧
    sc.membershipChanged = false ∧ ∀ x ∈ s.line.duty, ∃ d, (s.fan x.fan).state = .running d := by
  have hdef : s.settled sc = (!s.line.duty.isEmpty && s.line.duty.all (fun x => (s.fan x.fan).state.isRunning) &&
    !sc.membershipChanged) := rfl
  simp only [hdef, Bool.and_eq_true, List.all_eq_true, FanState.isRunning_iff, Bool.not_eq_true',
    List.isEmpty_eq_false_iff]
  exact ⟨fun ⟨⟨h1, h2⟩, h3⟩ => ⟨h1, h3, h2⟩, fun ⟨h1, h3, h2⟩ => ⟨⟨h1, h2⟩, h3⟩⟩

/-- Ageing changes nothing of what makes a line settled (R83). -/
theorem State.Aged.settled {s t : State} (h : s.Aged t) (sc : Scenario) : t.settled sc = s.settled sc := by
  rw [Bool.eq_iff_iff, State.settled_iff, State.settled_iff, h.duty]
  have hstate : ∀ i, (t.fan i).state = (s.fan i).state := fun i => by rw [h.fan i]
  have hfan : ∀ x : Member, (if (s.fan x.fan).expired = false ∧ (t.fan x.fan).expired = true then x.expire else x).fan =
      x.fan := fun x => ite_keeps (P := fun y : Member => y.fan = x.fan) rfl rfl
  simp only [ne_eq, List.map_eq_nil_iff, List.forall_mem_map, hfan, hstate]

/-- The record after step 3 of a boundary (R84, R85). -/
def State.trimmed (s : State) (vm : Option Int) (sc : Scenario) : Scenario :=
  match vm with
  | some v => if !sc.fullThrust && s.settled sc then sc.trimStep v s.trimBand else sc
  | none => sc

/-- A trim step that is held (R84). -/
theorem State.trimmed_held (s : State) (vm : Option Int) (sc : Scenario)
    (h : sc.fullThrust = true ∨ vm = none ∨ ¬ s.settled sc = true) : s.trimmed vm sc = sc := by
  unfold State.trimmed
  split
  · refine if_neg ?_
    simpa [← Bool.not_eq_true, imp_iff_not_or] using h
  · rfl

/-- A trim step that is taken (R84). -/
theorem State.trimmed_taken (s : State) (v : Int) (sc : Scenario) (hf : sc.fullThrust = false)
    (h : s.settled sc = true) : s.trimmed (some v) sc = sc.trimStep v s.trimBand :=
  if_pos (by simp [hf, h])

theorem State.trimmed_rest (s : State) (vm : Option Int) (sc : Scenario) : s.trimmed vm sc = { sc with
    trim := (s.trimmed vm sc).trim
    lowCount := (s.trimmed vm sc).lowCount
    highCount := (s.trimmed vm sc).highCount } := by
  unfold State.trimmed
  split
  · split
    · exact sc.trimStep_rest _ _
    · rfl
  · rfl

/-! ### The boundary -/

/-- The state that steps 1 to 4 of a boundary leave to be evaluated (R77). -/
def State.beforeEvaluation (s : State) (vm : Option Int) (sc : Scenario) : State :=
  { s.exposeAll sc with line := { (s.exposeAll sc).line with
      scenario := some { (s.exposeAll sc).trimmed vm sc.applyPending with membershipChanged := false } } }

/-- The five steps (R77). -/
theorem State.fireBoundary_eq (s : State) (vm : Option Int) (sc : Scenario) (h : s.line.scenario = some sc) :
    s.fireBoundary vm = (s.beforeEvaluation vm sc).evaluate := by
  let pending := (s.exposeAll sc).modifyScenario Scenario.applyPending
  have hexposed : s.withScenario State.exposeAll = s.exposeAll sc := by rw [State.withScenario, h]
  have hpending : pending.line.scenario = some sc.applyPending := by
    show (s.exposeAll sc).line.scenario.map _ = _
    rw [(s.exposeAll_spec sc).1.rest, h]
    rfl
  have htrim : pending.withScenario (fun s sc => s.takeTrim vm sc) = pending.takeTrim vm sc.applyPending := by
    rw [State.withScenario, hpending]
  have htaken : (pending.takeTrim vm sc.applyPending).modifyScenario (fun sc => { sc with membershipChanged := false }) =
      s.beforeEvaluation vm sc := by
    have hset : ∀ f : Scenario → Scenario, pending.modifyScenario f = { s.exposeAll sc with
        line := { (s.exposeAll sc).line with scenario := some (f sc.applyPending) } } := by
      intro f
      unfold State.modifyScenario
      rw [hpending]
      rfl
    have htwice : ∀ f g : Scenario → Scenario,
        (pending.modifyScenario f).modifyScenario g = pending.modifyScenario (fun x => g (f x)) := by
      intro f g
      simp only [State.modifyScenario, Option.map_map]
      rfl
    unfold State.beforeEvaluation
    cases vm with
    | none => exact hset _
    | some v =>
      unfold State.takeTrim State.trimmed
      dsimp only
      rw [show pending.settled sc.applyPending = (s.exposeAll sc).settled sc.applyPending from rfl]
      split
      · rw [htwice]
        exact hset _
      · exact hset _
  unfold State.fireBoundary
  dsimp only
  rw [hexposed, htrim, htaken]

/-! ### The state that is evaluated -/

/-- Ageing leaves the trim step as it is (R84). -/
theorem State.Aged.trimmed {s t : State} (h : s.Aged t) (vm : Option Int) (sc : Scenario) :
    t.trimmed vm sc = s.trimmed vm sc := by
  have hband : t.trimBand = s.trimBand := by rw [h.rest]; rfl
  unfold State.trimmed
  rw [h.settled, hband]

/-- The record that steps 2 to 4 of a boundary leave (R78, R79, R85, R87). -/
def State.nextScenario (s : State) (vm : Option Int) (sc : Scenario) : Scenario :=
  { s.trimmed vm sc.applyPending with membershipChanged := false }

theorem State.nextScenario_eq (s : State) (vm : Option Int) (sc : Scenario) : s.nextScenario vm sc = { sc with
    target := sc.pendingTarget.getD sc.target
    pendingTarget := none
    fullThrust := sc.pendingFullThrust.getD sc.fullThrust
    pendingFullThrust := none
    trim := (s.nextScenario vm sc).trim
    lowCount := (s.nextScenario vm sc).lowCount
    highCount := (s.nextScenario vm sc).highCount
    membershipChanged := false } := by
  have h := s.trimmed_rest vm sc.applyPending
  rw [sc.applyPending_eq] at h
  rw [State.nextScenario, sc.applyPending_eq]
  exact congrArg (fun x : Scenario => { x with membershipChanged := false }) h

/-- What steps 1 to 4 of a boundary make of the state, whole (R77). -/
theorem State.beforeEvaluation_eq (s : State) (vm : Option Int) (sc : Scenario) : s.beforeEvaluation vm sc = { s with
    line := { s.line with
      scenario := some (s.nextScenario vm sc)
      duty := s.line.duty.map (fun x =>
        if (s.fan x.fan).expired = false ∧ ((s.exposeAll sc).fan x.fan).expired = true then x.expire else x) }
    fans := (s.exposeAll sc).fans
    events := (s.exposeAll sc).events } := by
  obtain ⟨haged, -⟩ := s.exposeAll_spec sc
  unfold State.beforeEvaluation State.nextScenario
  rw [haged.trimmed, ← haged.duty]
  generalize s.exposeAll sc = e at haged
  obtain ⟨duty, fans, events, rfl⟩ : ∃ duty fans events,
      e = { s with line := { s.line with duty := duty }, fans := fans, events := events } := ⟨_, _, _, haged.rest⟩
  rfl

/-- A boundary in FIRE: steps 1 to 4, the evaluation, the end of the operation (R77). -/
theorem exec_controlPeriodBoundary_fire (s : State) (vm : Option Int) (sc : Scenario) (hmode : s.line.mode = .fire)
    (hsc : s.line.scenario = some sc) (hdue : s.line.boundaryDue = some vm) (hover : s.line.overtaken = false) :
    exec .controlPeriodBoundary s = .next ((State.beforeEvaluation { s with line := { s.line with boundaryDue := none } }
      vm sc).evaluate).settle := by
  rw [← State.fireBoundary_eq { s with line := { s.line with boundaryDue := none } } vm sc hsc]
  simp [exec, execControlPeriodBoundary, hmode, hdue, hover]

/-- A boundary that a STAND_DOWN has overtaken is counted as a window end (R89). -/
theorem exec_controlPeriodBoundary_overtaken (s : State) (m : LineImage) (himage : s.image = some m)
    (hmode : s.line.mode = .normal ∨ s.line.mode = .fire) (hover : s.line.overtaken = true)
    (hcounting : s.line.counting = true) : exec .controlPeriodBoundary s = .next { s with line :=
      if s.line.windowCount + 1 < m.tunnel.windowsPerPeriod then
        { s.line with overtaken := false, windowCount := s.line.windowCount + 1 }
      else { s.line with overtaken := false, windowCount := 0, boundaryDue := some s.air.vm } } := by
  have hexec : exec .controlPeriodBoundary s = .next s.countOvertaken := by
    rcases hmode with h | h <;> simp [exec, execControlPeriodBoundary, h, hover]
  have hperiod : State.windowsPerPeriod { s with line := { s.line with overtaken := false } } =
      m.tunnel.windowsPerPeriod := by
    simp [State.windowsPerPeriod, State.tunnel?, himage]
  rw [hexec, State.countOvertaken, State.countWindowEnd, if_pos hcounting, hperiod]
  by_cases h : s.line.windowCount + 1 < m.tunnel.windowsPerPeriod
  · rw [if_neg (Nat.not_le.mpr h), if_pos h]
  · rw [if_pos (Nat.not_lt.mp h), if_neg h]

/-- Two records that agree but for what an evaluation writes (R56). -/
theorem Scenario.eq_of_core {a b : Scenario} (h : a.core = b.core) : a = { b with
    required := a.required, membershipChanged := a.membershipChanged, shortfall := a.shortfall } := by
  cases a
  cases b
  simpa [Scenario.core] using h

/-! ### The clauses of the statement -/

/-- Ageing is work of the line controller (R71). -/
theorem State.Aged.toLineWork {s t : State} (h : s.Aged t) : State.LineWork s t := by
  have hlevels := h.levels
  have hfans := h.fan
  have hmask := h.mask
  have hgrows := h.grows
  have hcount := h.fanCount
  obtain ⟨duty, fans, events, rfl⟩ : ∃ duty fans events,
      t = { s with line := { s.line with duty := duty }, fans := fans, events := events } := ⟨_, _, _, h.rest⟩
  exact { State.LineWork.refl s with
    mask := hmask
    levels := by rw [show events.levels = s.events.levels from hlevels]
    grows := hgrows
    fanCount := hcount
    history := fun i => by rw [hfans i]; exact ⟨rfl, rfl, rfl, rfl, rfl⟩ }

/-- The trim step of a boundary, clause by clause (R84, R85). -/
theorem State.nextScenario_trim (s : State) (m : LineImage) (vm : Option Int) (sc : Scenario)
    (himage : s.image = some m) :
    let now := s.nextScenario vm sc
    let settled := s.line.duty ≠ [] ∧ sc.membershipChanged = false ∧
      ∀ x ∈ s.line.duty, ∃ d, (s.fan x.fan).state = .running d
    let low := if sc.pendingTarget = none then sc.lowCount else 0
    let high := if sc.pendingTarget = none then sc.highCount else 0
    (now.fullThrust = true ∨ vm = none ∨ ¬ settled →
      now.trim = sc.trim ∧ now.lowCount = low ∧ now.highCount = high) ∧
    (∀ v, now.fullThrust = false → vm = some v → settled →
      let e : Int := v - now.target
      let band : Int := m.tunnel.trimBand
      (e < -band → low = 0 → now.trim = sc.trim ∧ now.lowCount = 1 ∧ now.highCount = 0) ∧
      (e < -band → low = 1 → now.trim = (if sc.trim < 8 then sc.trim + 1 else sc.trim) ∧ now.lowCount = 0 ∧
        now.highCount = 0) ∧
      (band < e → high = 0 → now.trim = sc.trim ∧ now.highCount = 1 ∧ now.lowCount = 0) ∧
      (band < e → high = 1 → now.trim = (if -8 < sc.trim then sc.trim - 1 else sc.trim) ∧ now.highCount = 0 ∧
        now.lowCount = 0) ∧
      (-band ≤ e → e ≤ band → now.trim = sc.trim ∧ now.lowCount = 0 ∧ now.highCount = 0)) := by
  have hfull : (s.nextScenario vm sc).fullThrust = sc.applyPending.fullThrust :=
    (congrArg Scenario.fullThrust (s.trimmed_rest vm sc.applyPending) :)
  have htarget : (s.nextScenario vm sc).target = sc.applyPending.target :=
    (congrArg Scenario.target (s.trimmed_rest vm sc.applyPending) :)
  have hband : s.trimBand = m.tunnel.trimBand := by simp [State.trimBand, State.tunnel?, himage]
  have hchanged : sc.applyPending.membershipChanged = sc.membershipChanged := by rw [sc.applyPending_eq]
  have htrim : sc.applyPending.trim = sc.trim := by rw [sc.applyPending_eq]
  have hlow : sc.applyPending.lowCount = if sc.pendingTarget = none then sc.lowCount else 0 := by
    rw [sc.applyPending_eq]
  have hhigh : sc.applyPending.highCount = if sc.pendingTarget = none then sc.highCount else 0 := by
    rw [sc.applyPending_eq]
  have hsettled := s.settled_iff sc.applyPending
  rw [hchanged] at hsettled
  dsimp only
  rw [hfull, htarget, ← hsettled, ← htrim, ← hlow, ← hhigh]
  refine ⟨fun hheld => ?_, fun v hactive hvm hset => ?_⟩
  · rw [State.nextScenario, s.trimmed_held vm sc.applyPending hheld]
    exact ⟨rfl, rfl, rfl⟩
  · subst hvm
    rw [State.nextScenario, s.trimmed_taken v sc.applyPending hactive hset, hband]
    refine ⟨fun he hc => ?_, fun he hc => ?_, fun he hc => ?_, fun he hc => ?_, fun he he' => ?_⟩
    · rw [(sc.applyPending.trimStep_below v _ he).1 hc]
      exact ⟨rfl, rfl, rfl⟩
    · rw [(sc.applyPending.trimStep_below v _ he).2 hc]
      exact ⟨rfl, rfl, rfl⟩
    · rw [(sc.applyPending.trimStep_above v _ he).1 hc]
      exact ⟨rfl, rfl, rfl⟩
    · rw [(sc.applyPending.trimStep_above v _ he).2 hc]
      exact ⟨rfl, rfl, rfl⟩
    · rw [sc.applyPending.trimStep_within v _ he he']
      exact ⟨rfl, rfl, rfl⟩

/-- Step 1 for an installed fan, in the figures of its image (R10, R71, R72). -/
theorem State.exposedFan_installed (s : State) (m : LineImage) (sc : Scenario) (i : Nat) (f : FanStatic)
    (himage : s.image = some m) (hf : m.fans[i]? = some f) :
    let hot := match sc.direction with
      | .forward => sc.chainage ≤ f.chainage
      | .reverse => f.chainage ≤ sc.chainage
    let exposure := min 65535 ((s.fan i).exposure + m.tunnel.windowsPerPeriod * m.tunnel.windowSeconds)
    (¬ hot → s.exposedFan sc i = s.fan i) ∧ (hot → s.exposedFan sc i = { s.fan i with
      exposure := exposure, expired := (s.fan i).expired || decide (f.heatRating * 60 ≤ exposure) }) := by
  have hstatic : s.fanStatic? i = some f := by simp [State.fanStatic?, himage, hf]
  have hperiod : s.controlPeriod = m.tunnel.windowsPerPeriod * m.tunnel.windowSeconds := by
    simp [State.controlPeriod, State.tunnel?, himage]
  have hlimit : s.heatLimit i = f.heatRating * 60 := by simp [State.heatLimit, hstatic]
  have hside : s.fanSide sc i = .hot ↔ match sc.direction with
      | .forward => sc.chainage ≤ f.chainage
      | .reverse => f.chainage ≤ sc.chainage := by
    have hchainage : s.fanChainage i = f.chainage := by simp [State.fanChainage, hstatic]
    rw [State.fanSide, hchainage, Scenario.sideOf]
    cases sc.direction
    · dsimp only
      split
      · simp [*]
      · split <;> simp [*]
    · dsimp only
      split
      · simp [*]
      · split <;> simp [*]
  dsimp only
  rw [← hside, State.exposedFan, hperiod, hlimit]
  exact ⟨fun h => if_neg h, fun h => if_pos h⟩

/-- The required thrust in the figures of an image (R22 to R25). -/
theorem State.requiredFor_eq (s : State) (m : LineImage) (k : FireClass) (sc : Scenario) (himage : s.image = some m)
    (hk : m.classes[sc.fireClass]? = some k) :
    s.requiredFor sc = requiredThrust m.tunnel k.firePressure sc.target sc.trainLength := by
  simp [State.requiredFor, State.tunnel?, State.fireClass?, himage, hk]

/-- The record after an evaluation: required thrust, membership changed and shortfall are new (R56, R57). -/
theorem State.evaluate_scenario (u : State) (mid : Scenario) (h : u.line.scenario = some mid) :
    ∃ changed short, u.evaluate.line.scenario = some { mid with
      required := u.requiredFor mid, membershipChanged := changed, shortfall := short } := by
  obtain ⟨now, hnow, hrequired⟩ := u.evaluate_required mid h
  have hcore : now.core = mid.core := by
    have := (State.FieldWork.evaluate u).scenario
    rw [hnow, h] at this
    exact Option.some.inj this
  exact ⟨now.membershipChanged, now.shortfall, by rw [hnow, ← hrequired]; exact congrArg some (Scenario.eq_of_core hcore)⟩

@[simp] theorem State.settle_fan (s : State) (i : Nat) : s.settle.fan i = s.fan i := rfl

/-- The state in which the steps of a boundary begin: the boundary is no longer due. -/
def State.boundaryTaken (s : State) : State := { s with line := { s.line with boundaryDue := none } }

/-- Settles O53: step 1 by how fans age, steps 2 to 4 by the record they leave, step 5 by the frame of the evaluation. -/
theorem boundaryInFireTakesItsSteps : Obligations.BoundaryInFireTakesItsSteps := by
  refine ⟨fun s m sc k vm _ himage hmode hsc hdue hover hk hcount => ?_, exec_controlPeriodBoundary_overtaken,
    fun s hmode hover => ⟨fun vm hdue => ?_, fun hdue => ?_⟩⟩
  · let mid := s.boundaryTaken.nextScenario vm sc
    have hexec : exec .controlPeriodBoundary s =
        .next (s.boundaryTaken.beforeEvaluation vm sc).evaluate.settle :=
      exec_controlPeriodBoundary_fire s vm sc hmode hsc hdue hover
    obtain ⟨haged, hexposed⟩ := s.boundaryTaken.exposeAll_spec sc
    have hu := s.boundaryTaken.beforeEvaluation_eq vm sc
    generalize s.boundaryTaken.beforeEvaluation vm sc = u at hexec hu
    generalize s.boundaryTaken.exposeAll sc = e at haged hexposed hu
    have hfan : ∀ i, u.fan i = e.fan i := State.fan_congr (by rw [hu])
    have hevents : u.events = e.events := by rw [hu]
    have hscenario : u.line.scenario = some mid := by rw [hu]
    have huimage : u.image = some m := by rw [hu]; exact himage
    have hwork := State.FieldWork.evaluate u
    have hlink : u.evaluate.link = s.link := by rw [u.evaluate_link, hu]; rfl
    obtain ⟨changed, short, hnow⟩ := u.evaluate_scenario mid hscenario
    have hrestart : ∀ i, (u.evaluate.fan i).restartUsed = (e.fan i).restartUsed := fun i => by
      obtain ⟨h, -⟩ := hwork.history i; rw [h, hfan]
    have hexposure : ∀ i, (u.evaluate.fan i).exposure = (e.fan i).exposure := fun i => by
      obtain ⟨-, -, -, h, -⟩ := hwork.history i; rw [h, hfan]
    have hexpired : ∀ i, (u.evaluate.fan i).expired = (e.fan i).expired := fun i => by
      obtain ⟨-, -, -, -, h, -⟩ := hwork.history i; rw [h, hfan]
    refine ⟨u, u.evaluate.settle, mid, { mid with
      required := u.requiredFor mid, membershipChanged := changed, shortfall := short }, hexec,
      ⟨rfl, rfl, rfl, rfl, rfl, rfl⟩, ?state, ?count, ?fans, ?mask, ?levels, ?kinds, ?mid, rfl, ?work, ?sends, ?mode,
      hnow, ?vm, ?feedback, ?due, ?counter, ?reports, ?required, ?trim, ?installed⟩
    case state =>
      simp only [State.settle_fan, hexpired]
      rw [hu]
      rfl
    case count => rw [hu]; exact haged.fanCount
    case fans =>
      intro i
      rw [State.settle_fan, hexposure, hexpired, hfan]
      exact haged.fan i
    case mask => rw [hevents]; exact haged.mask
    case levels => rw [hevents]; exact haged.levels
    case kinds => rw [hevents]; exact haged.kinds
    case mid => exact State.nextScenario_eq _ vm sc
    case work =>
      have haged := haged.toLineWork
      have hbefore : State.LineWork s u := by
        rw [hu]
        exact { State.LineWork.refl s with
          mask := haged.mask, levels := haged.levels, grows := haged.grows, fanCount := haged.fanCount
          history := haged.history }
      exact (hbefore.trans hwork.toLineWork).trans (State.FieldWork.settle u.evaluate).toLineWork
    case sends =>
      have hsends := u.evaluate.settle_sends
      rwa [hlink] at hsends
    case mode => exact hwork.mode.trans (by rw [hu]; exact hmode)
    case vm => exact congrArg AirflowUnit.vm (hwork.air.trans (by rw [hu]; rfl))
    case feedback =>
      have hlost : u.evaluate.events.levels.feedbackLost = u.events.levels.feedbackLost :=
        (congrArg Levels.feedbackLost hwork.levels :)
      exact hlost.trans (by rw [hevents]; exact congrArg Levels.feedbackLost haged.levels)
    case due => exact hwork.boundaryDue.trans (by rw [hu]; rfl)
    case counter => exact hwork.windowCount.trans (by rw [hu]; rfl)
    case reports => exact hwork.reports.trans (by rw [hu]; rfl)
    case required =>
      have hclass : mid.fireClass = sc.fireClass := (congrArg Scenario.fireClass (State.nextScenario_eq _ vm sc) :)
      have htrain : mid.trainLength = sc.trainLength := (congrArg Scenario.trainLength (State.nextScenario_eq _ vm sc) :)
      have hrequired := u.requiredFor_eq m k mid huimage (hclass ▸ hk)
      rwa [htrain] at hrequired
    case trim => exact State.nextScenario_trim s.boundaryTaken m vm sc himage
    case installed =>
      intro i f hf
      have hi : i < s.fanCount := hcount ▸ (List.getElem?_eq_some_iff.mp hf).1
      have hself := hexposed i hi
      obtain ⟨hcold, hhot⟩ := State.exposedFan_installed s.boundaryTaken m sc i f himage hf
      simp only [State.settle_fan, hrestart, hexposure, hexpired]
      refine ⟨by rw [haged.fan i]; rfl, fun h => ?_, fun h => ?_⟩
      · rw [hself, hcold h]
        exact ⟨rfl, rfl⟩
      · refine ⟨by rw [hself, hhot h]; rfl, ?_, fun hbefore hafter => ?_⟩
        · rw [hself, hhot h]
          simp only [Bool.or_eq_true, decide_eq_true_eq]
          rfl
        · exact (haged.shows i hbefore hafter).mono (hwork.mask.trans (by rw [hevents])) fun n hn =>
            hwork.grows n (by rw [hevents]; exact hn)
  · simp [exec, execControlPeriodBoundary, hmode, hover, hdue]
  · simp [exec, execControlPeriodBoundary, hmode, hover, hdue]

end Sys2Proof.Machine
end

section
/-! The default order (R46): what inserting one fan makes of a list, one side, then both sides and the statement. -/

namespace Sys2Proof.Machine

/-! ### Inserting by distance -/

theorem distanceFrom_eq (fire x : Nat) : distanceFrom fire x = max x fire - min x fire := by
  unfold distanceFrom
  split <;> omega

/-- Fan `i` comes before fan `j` on one side of the fire (R46). -/
def FartherFirst (fire : Nat) (chainages : List Nat) (i j : Nat) : Prop :=
  distanceFrom fire (chainages.getD j 0) < distanceFrom fire (chainages.getD i 0) ∨
  distanceFrom fire (chainages.getD i 0) = distanceFrom fire (chainages.getD j 0) ∧ i < j

theorem FartherFirst.trans {fire : Nat} {chainages : List Nat} {i j k : Nat} (h : FartherFirst fire chainages i j)
    (h' : FartherFirst fire chainages j k) : FartherFirst fire chainages i k := by
  unfold FartherFirst at *
  omega

theorem insertFarthest_perm (fire : Nat) (chainages : List Nat) (i : Nat) (l : List Nat) :
    (insertFarthest fire chainages i l).Perm (i :: l) := by
  induction l with
  | nil => exact .refl _
  | cons j js ih =>
    rw [insertFarthest]
    split
    · exact .refl _
    · exact (ih.cons j).trans (.swap i j js)

/-- The greatest fan number goes behind the fans at its distance, so it keeps the order of a list of lower numbers. -/
theorem insertFarthest_pairwise {fire : Nat} {chainages : List Nat} {i : Nat} {l : List Nat}
    (hl : l.Pairwise (FartherFirst fire chainages)) (hi : ∀ j ∈ l, j < i) :
    (insertFarthest fire chainages i l).Pairwise (FartherFirst fire chainages) := by
  induction l with
  | nil => exact List.pairwise_singleton _ i
  | cons j js ih =>
    obtain ⟨hj, hjs⟩ := List.pairwise_cons.mp hl
    rw [insertFarthest]
    split
    case isTrue hfar =>
      have hij : FartherFirst fire chainages i j := .inl hfar
      refine List.pairwise_cons.mpr ⟨fun k hk => ?_, hl⟩
      rcases List.mem_cons.mp hk with rfl | hk
      · exact hij
      · exact hij.trans (hj k hk)
    case isFalse hnear =>
      have hji : FartherFirst fire chainages j i := by
        have := hi j List.mem_cons_self
        unfold FartherFirst
        omega
      refine List.pairwise_cons.mpr ⟨fun k hk => ?_, ih hjs fun k hk => hi k (List.mem_cons_of_mem j hk)⟩
      rcases List.mem_cons.mp ((insertFarthest_perm fire chainages i js).mem_iff.mp hk) with rfl | hk
      · exact hji
      · exact hj k hk

/-- Fans inserted in fan number order. -/
theorem foldl_insertFarthest (fire : Nat) (chainages : List Nat) {l : List Nat} (hl : l.Pairwise (· < ·)) :
    (l.foldl (fun list i => insertFarthest fire chainages i list) []).Perm l ∧
    (l.foldl (fun list i => insertFarthest fire chainages i list) []).Pairwise (FartherFirst fire chainages) := by
  induction l using List.reverseRecOn with
  | nil => exact ⟨.refl _, .nil⟩
  | append_singleton l i ih =>
    obtain ⟨hinit, -, hlast⟩ := List.pairwise_append.mp hl
    obtain ⟨hperm, hordered⟩ := ih hinit
    rw [List.foldl_concat]
    have hinsert := insertFarthest_perm fire chainages i
      (l.foldl (fun list i => insertFarthest fire chainages i list) [])
    exact ⟨hinsert.trans ((hperm.cons i).trans (List.perm_append_singleton i l).symm),
      insertFarthest_pairwise hordered fun j hj => hlast j (hperm.mem_iff.mp hj) i List.mem_cons_self⟩

/-! ### One side and both sides -/

theorem sideOrder_spec (sc : Scenario) (chainages : List Nat) (side : Side) :
    (sideOrder sc chainages side).Perm ((List.range chainages.length).filter fun i =>
      decide (sc.sideOf (chainages.getD i 0) = side) && !sc.excludes (chainages.getD i 0)) ∧
    (sideOrder sc chainages side).Pairwise (FartherFirst sc.chainage chainages) :=
  foldl_insertFarthest sc.chainage chainages (List.pairwise_lt_range.filter _)

theorem mem_sideOrder (sc : Scenario) (chainages : List Nat) (side : Side) (i : Nat) :
    i ∈ sideOrder sc chainages side ↔ i < chainages.length ∧ sc.sideOf (chainages.getD i 0) = side ∧
      sc.excludes (chainages.getD i 0) = false :=
  (sideOrder_spec sc chainages side).1.mem_iff.trans (by simp)

/-- Only the window, which holds the fire, is on neither side (R10). -/
theorem Scenario.sideOf_of_not_excludes {sc : Scenario} {x : Nat} (hlow : sc.windowLow ≤ sc.chainage)
    (hhigh : sc.chainage ≤ sc.windowHigh) (h : sc.excludes x = false) :
    sc.sideOf x = .cold ∨ sc.sideOf x = .hot := by
  simp only [Scenario.excludes, Bool.and_eq_false_iff, decide_eq_false_iff_not] at h
  unfold Scenario.sideOf
  cases sc.direction with
  | forward =>
    by_cases hhot : sc.chainage ≤ x
    · simp [hhot]
    · have hcold : x < sc.windowLow := by omega
      simp [hhot, hcold]
  | reverse =>
    by_cases hhot : x ≤ sc.chainage
    · simp [hhot]
    · have hcold : sc.windowHigh < x := by omega
      simp [hhot, hcold]

theorem mem_defaultOrder {sc : Scenario} (chainages : List Nat) (hlow : sc.windowLow ≤ sc.chainage)
    (hhigh : sc.chainage ≤ sc.windowHigh) (i : Nat) :
    i ∈ defaultOrder sc chainages ↔ i < chainages.length ∧ sc.excludes (chainages.getD i 0) = false := by
  rw [defaultOrder, List.mem_append, mem_sideOrder, mem_sideOrder]
  constructor
  · rintro (⟨hi, -, h⟩ | ⟨hi, -, h⟩) <;> exact ⟨hi, h⟩
  · rintro ⟨hi, h⟩
    exact (Scenario.sideOf_of_not_excludes hlow hhigh h).imp (⟨hi, ·, h⟩) (⟨hi, ·, h⟩)

theorem defaultOrder_pairwise (sc : Scenario) (chainages : List Nat) :
    (defaultOrder sc chainages).Pairwise fun i j =>
      sc.sideOf (chainages.getD i 0) = .cold ∧ sc.sideOf (chainages.getD j 0) = .hot ∨
      sc.sideOf (chainages.getD i 0) = sc.sideOf (chainages.getD j 0) ∧ FartherFirst sc.chainage chainages i j := by
  have hside (side : Side) {i : Nat} (hi : i ∈ sideOrder sc chainages side) : sc.sideOf (chainages.getD i 0) = side := by
    obtain ⟨-, h, -⟩ := (mem_sideOrder sc chainages side i).mp hi
    exact h
  have hordered (side : Side) := (sideOrder_spec sc chainages side).2
  refine List.pairwise_append.mpr ⟨(hordered .cold).imp_of_mem fun hi hj h => ?_,
    (hordered .hot).imp_of_mem fun hi hj h => ?_, fun i hi j hj => ?_⟩
  · exact .inr ⟨(hside _ hi).trans (hside _ hj).symm, h⟩
  · exact .inr ⟨(hside _ hi).trans (hside _ hj).symm, h⟩
  · exact .inl ⟨hside _ hi, hside _ hj⟩

theorem defaultOrder_nodup (sc : Scenario) (chainages : List Nat) : (defaultOrder sc chainages).Nodup := by
  refine (defaultOrder_pairwise sc chainages).imp ?_
  rintro i _ h rfl
  rcases h with ⟨hcold, hhot⟩ | ⟨-, hfar⟩
  · exact Side.noConfusion (hcold.symm.trans hhot)
  · unfold FartherFirst at hfar
    omega

/-- Settles O58: the pairwise order of the two sides, and their fans. -/
theorem defaultOrderIsFarthestFirst : Obligations.DefaultOrderIsFarthestFirst := by
  intro sc chainages hlow hhigh
  refine ⟨?_, mem_defaultOrder chainages hlow hhigh⟩
  simpa only [FartherFirst, distanceFrom_eq] using defaultOrder_pairwise sc chainages

end Sys2Proof.Machine
end

section
/-! The preference list (R38 to R45): the plan in use, the walks, the list that the walked positions build, and the
statement. -/

namespace Sys2Proof.Machine

/-! ### The plan in use -/

/-- The plan is for the direction and covers the fire (R38). -/
def Plan.Fits (d : Direction) (fire : Nat) (p : Plan) : Prop := p.direction = d ∧ p.lo ≤ fire ∧ fire ≤ p.hi

theorem Plan.fits_iff (d : Direction) (fire : Nat) (p : Plan) :
    (decide (p.direction = d) && p.covers fire) = true ↔ p.Fits d fire := by
  simp [Plan.covers, Plan.Fits]

theorem matchPlan_of_fits {d : Direction} {fire : Nat} {p : Plan} (h : p.Fits d fire) (ps : List Plan) (k : Nat) :
    matchPlan d fire (p :: ps) k = some (k, p) := if_pos ((p.fits_iff d fire).mpr h)

theorem matchPlan_of_not_fits {d : Direction} {fire : Nat} {p : Plan} (h : ¬ p.Fits d fire) (ps : List Plan)
    (k : Nat) : matchPlan d fire (p :: ps) k = matchPlan d fire ps (k + 1) := if_neg (mt (p.fits_iff d fire).mp h)

theorem matchPlan_eq_none_iff (d : Direction) (fire : Nat) (plans : List Plan) (k : Nat) :
    matchPlan d fire plans k = none ↔ ∀ p ∈ plans, ¬ p.Fits d fire := by
  induction plans generalizing k with
  | nil => simp [matchPlan]
  | cons p ps ih =>
    by_cases h : p.Fits d fire
    · simp [matchPlan_of_fits h, h]
    · simp [matchPlan_of_not_fits h, h, ih]

/-- `j` is the place of the first plan that fits, `p` that plan (R39). -/
def FirstFit (d : Direction) (fire : Nat) (plans : List Plan) (j : Nat) (p : Plan) : Prop :=
  plans[j]? = some p ∧ p.Fits d fire ∧ ∀ i q, i < j → plans[i]? = some q → ¬ q.Fits d fire

theorem FirstFit.unique {d : Direction} {fire : Nat} {plans : List Plan} {i j : Nat} {p q : Plan}
    (hp : FirstFit d fire plans i p) (hq : FirstFit d fire plans j q) : i = j ∧ p = q := by
  obtain ⟨hi, hpfits, hpfirst⟩ := hp
  obtain ⟨hj, hqfits, hqfirst⟩ := hq
  rcases Nat.lt_trichotomy i j with hlt | rfl | hlt
  · exact absurd hpfits (hqfirst i p hlt hi)
  · exact ⟨rfl, Option.some.inj (hi.symm.trans hj)⟩
  · exact absurd hqfits (hpfirst j q hlt hj)

theorem FirstFit.head {d : Direction} {fire : Nat} {p : Plan} (h : p.Fits d fire) (ps : List Plan) :
    FirstFit d fire (p :: ps) 0 p := ⟨rfl, h, fun _ _ hi => absurd hi (Nat.not_lt_zero _)⟩

theorem FirstFit.tail {d : Direction} {fire : Nat} {ps : List Plan} {j : Nat} {p q : Plan}
    (h : FirstFit d fire ps j p) (hq : ¬ q.Fits d fire) : FirstFit d fire (q :: ps) (j + 1) p := by
  obtain ⟨hj, hfits, hfirst⟩ := h
  refine ⟨hj, hfits, fun i r hi hr => ?_⟩
  cases i with
  | zero => exact Option.some.inj hr ▸ hq
  | succ i => exact hfirst i r (by omega) hr

theorem matchPlan_firstFit {d : Direction} {fire : Nat} {plans : List Plan} {k n : Nat} {p : Plan}
    (h : matchPlan d fire plans k = some (n, p)) : ∃ j, n = k + j ∧ FirstFit d fire plans j p := by
  induction plans generalizing k with
  | nil => cases h
  | cons q ps ih =>
    by_cases hq : q.Fits d fire
    · obtain ⟨rfl, rfl⟩ := Prod.mk.inj (Option.some.inj ((matchPlan_of_fits hq ps k).symm.trans h))
      exact ⟨0, rfl, .head hq ps⟩
    · obtain ⟨j, hn, hj⟩ := ih ((matchPlan_of_not_fits hq ps k).symm.trans h)
      exact ⟨j + 1, by omega, hj.tail hq⟩

theorem matchPlan_eq_some_iff (d : Direction) (fire : Nat) (plans : List Plan) (n : Nat) (p : Plan) :
    matchPlan d fire plans 0 = some (n, p) ↔ FirstFit d fire plans n p := by
  constructor
  · intro h
    obtain ⟨j, hn, hj⟩ := matchPlan_firstFit h
    rwa [hn, Nat.zero_add]
  · intro h
    cases hm : matchPlan d fire plans 0 with
    | none =>
      obtain ⟨hn, hfits, -⟩ := h
      exact absurd hfits ((matchPlan_eq_none_iff d fire plans 0).mp hm p (List.mem_of_getElem? hn))
    | some found =>
      obtain ⟨j, hj, hfound⟩ := matchPlan_firstFit hm
      obtain ⟨rfl, rfl⟩ := h.unique hfound
      exact congrArg some (Prod.ext (hj.trans (Nat.zero_add n)) rfl)

/-! ### The walks -/

/-- The walk of a descriptor as R40 and R41 count it: a count of 0 is a count no shorter than the table. -/
def Descriptor.walk (fanCount : Nat) (x : Descriptor) : List Nat :=
  let count := if x.count = 0 then fanCount else x.count
  if x.down then (List.range (min count (x.first + 1))).map (fun k => x.first - k)
  else (List.range (min count (fanCount - x.first))).map (fun k => x.first + k)

theorem Descriptor.positions_eq_walk {x : Descriptor} {fanCount : Nat} (h : x.first < fanCount) :
    x.positions fanCount = x.walk fanCount := by
  have hreach (reach : Nat) (hr : reach ≤ fanCount) :
      (if x.count = 0 then reach else min x.count reach) = min (if x.count = 0 then fanCount else x.count) reach := by
    split <;> omega
  simp only [Descriptor.positions, Descriptor.walk, hreach _ (Nat.succ_le_of_lt h), hreach _ (Nat.sub_le _ _)]

theorem Descriptor.walk_lt {x : Descriptor} {fanCount i : Nat} (h : x.first < fanCount) (hi : i ∈ x.walk fanCount) :
    i < fanCount := by
  simp only [Descriptor.walk] at hi
  cases hdown : x.down with
  | true =>
    rw [if_pos hdown] at hi
    obtain ⟨k, -, rfl⟩ := List.mem_map.mp hi
    exact (Nat.sub_le _ _).trans_lt h
  | false =>
    rw [if_neg (by simp [hdown])] at hi
    obtain ⟨k, hk, rfl⟩ := List.mem_map.mp hi
    have := List.mem_range.mp hk
    omega

/-! ### First places -/

theorem eraseDups_concat (l : List Nat) (i : Nat) :
    (l ++ [i]).eraseDups = if i ∈ l then l.eraseDups else l.eraseDups ++ [i] := by
  rw [List.eraseDups_append]
  split <;> simp [List.removeAll, List.eraseDups_cons, *]

theorem nodup_eraseDups (l : List Nat) : l.eraseDups.Nodup := by
  induction l using List.reverseRecOn with
  | nil => exact .nil
  | append_singleton l i ih =>
    rw [eraseDups_concat]
    split
    case isTrue => exact ih
    case isFalse hi => exact List.concat_eq_append ▸ ih.concat (mt List.mem_eraseDups.mp hi)

/-- Fan `i` is a fan of the image outside the window (R43). -/
def Scenario.usable (sc : Scenario) (chainages : List Nat) (i : Nat) : Bool :=
  match chainages[i]? with
  | some x => !sc.excludes x
  | none => false

theorem Scenario.usable_iff (sc : Scenario) (chainages : List Nat) (i : Nat) :
    sc.usable chainages i = true ↔ ∃ x, chainages[i]? = some x ∧ sc.excludes x = false := by
  unfold Scenario.usable
  cases chainages[i]? <;> simp

theorem Scenario.usable_of_lt (sc : Scenario) {chainages : List Nat} {i : Nat} (hi : i < chainages.length) :
    sc.usable chainages i = !sc.excludes (chainages.getD i 0) := by
  simp [Scenario.usable, List.getElem?_eq_getElem hi]

theorem mem_defaultOrder_iff_usable {sc : Scenario} (chainages : List Nat) (hlow : sc.windowLow ≤ sc.chainage)
    (hhigh : sc.chainage ≤ sc.windowHigh) (i : Nat) :
    i ∈ defaultOrder sc chainages ↔ sc.usable chainages i = true := by
  rw [mem_defaultOrder chainages hlow hhigh]
  constructor
  · rintro ⟨hi, h⟩
    rw [sc.usable_of_lt hi, h]
    rfl
  · intro h
    obtain ⟨x, hx, -⟩ := (sc.usable_iff chainages i).mp h
    have hi := (List.getElem?_eq_some_iff.mp hx).1
    exact ⟨hi, by simpa [sc.usable_of_lt hi] using h⟩

theorem addPosition_eraseDups (sc : Scenario) {chainages : List Nat} (l : List Nat) {i : Nat}
    (hi : i < chainages.length) :
    addPosition sc chainages l.eraseDups i = (l ++ [i].filter (sc.usable chainages)).eraseDups := by
  rw [addPosition, List.filter_singleton, sc.usable_of_lt hi]
  cases sc.excludes (chainages.getD i 0) with
  | true => simp
  | false => simp [eraseDups_concat]

/-- Walked positions are added to a list as R42 and R43 say: each usable fan at its first place. -/
theorem foldl_addPosition (sc : Scenario) {chainages : List Nat} (l : List Nat) {walked : List Nat}
    (h : ∀ i ∈ walked, i < chainages.length) :
    walked.foldl (addPosition sc chainages) l.eraseDups =
      (l ++ walked.filter (sc.usable chainages)).eraseDups := by
  induction walked generalizing l with
  | nil => simp
  | cons i is ih =>
    rw [List.foldl_cons, addPosition_eraseDups sc l (h i List.mem_cons_self),
      ih _ fun j hj => h j (List.mem_cons_of_mem i hj), List.append_assoc, ← List.filter_append]
    rfl

/-! ### The list of a plan -/

/-- The positions that build a plan's list: its walks, then the default order when it is OPEN (R40, R45). -/
def Plan.walked (sc : Scenario) (chainages : List Nat) (p : Plan) : List Nat :=
  p.descriptors.flatMap (Descriptor.walk chainages.length) ++ if p.isOpen then defaultOrder sc chainages else []

section
variable (sc : Scenario) {chainages : List Nat}

theorem expandPlan_eq {p : Plan} (h : ∀ x ∈ p.descriptors, x.first < chainages.length) :
    expandPlan sc chainages p =
      ((p.descriptors.flatMap (Descriptor.walk chainages.length)).filter (sc.usable chainages)).eraseDups := by
  have hwalk : p.descriptors.flatMap (fun x => x.positions chainages.length) =
      p.descriptors.flatMap (Descriptor.walk chainages.length) :=
    List.flatMap_congr fun x hx => Descriptor.positions_eq_walk (h x hx)
  rw [expandPlan, hwalk]
  refine foldl_addPosition sc [] fun i hi => ?_
  obtain ⟨x, hx, hi⟩ := List.mem_flatMap.mp hi
  exact Descriptor.walk_lt (h x hx) hi

theorem resolvePreference_default {plans : List Plan} (h : matchPlan sc.direction sc.chainage plans 0 = none) :
    resolvePreference sc plans chainages = (none, defaultOrder sc chainages) := by
  rw [resolvePreference, h]

theorem resolvePreference_plan {plans : List Plan} {n : Nat} {p : Plan}
    (hm : matchPlan sc.direction sc.chainage plans 0 = some (n, p))
    (hrefs : ∀ x ∈ p.descriptors, x.first < chainages.length) (hlow : sc.windowLow ≤ sc.chainage)
    (hhigh : sc.chainage ≤ sc.windowHigh) : resolvePreference sc plans chainages =
      (some n, ((p.walked sc chainages).filter (sc.usable chainages)).eraseDups) := by
  simp only [resolvePreference, hm, expandPlan_eq sc hrefs, Plan.walked, List.filter_append]
  split
  · rw [foldl_addPosition sc _ fun i hi => ((mem_defaultOrder chainages hlow hhigh i).mp hi).1]
  · rw [List.filter_nil, List.append_nil]

theorem resolvePreference_fst (plans : List Plan) : (resolvePreference sc plans chainages).1 =
    (matchPlan sc.direction sc.chainage plans 0).map Prod.fst := by
  unfold resolvePreference
  split <;> simp [*]

theorem resolvePreference_fst_eq_some_iff (plans : List Plan) (n : Nat) :
    (resolvePreference sc plans chainages).1 = some n ↔ ∃ p, FirstFit sc.direction sc.chainage plans n p := by
  simp [resolvePreference_fst, ← matchPlan_eq_some_iff]

theorem resolvePreference_fst_eq_none_iff (plans : List Plan) :
    (resolvePreference sc plans chainages).1 = none ↔ ∀ p ∈ plans, ¬ p.Fits sc.direction sc.chainage := by
  rw [resolvePreference_fst, Option.map_eq_none_iff, matchPlan_eq_none_iff]

end

/-! ### The statement -/

/-- The contents of the resolved list. -/
structure PreferenceFacts (sc : Scenario) (plans : List Plan) (chainages : List Nat) (r : Option Nat × List Nat) :
    Prop where
  nodup : r.2.Nodup
  usable : ∀ i ∈ r.2, sc.usable chainages i = true
  complete : ∀ i, sc.usable chainages i = true →
    (r.1 = none ∨ ∃ n p, r.1 = some n ∧ plans[n]? = some p ∧ p.isOpen = true) → i ∈ r.2
  ofPlan : ∀ n p, r.1 = some n → plans[n]? = some p →
    r.2 = ((p.walked sc chainages).filter (sc.usable chainages)).eraseDups
  ofDefault : r.1 = none → r.2 = defaultOrder sc chainages

theorem resolvePreference_facts (sc : Scenario) (plans : List Plan) (chainages : List Nat)
    (hlow : sc.windowLow ≤ sc.chainage) (hhigh : sc.chainage ≤ sc.windowHigh)
    (hrefs : ∀ p ∈ plans, ∀ x ∈ p.descriptors, x.first < chainages.length) :
    PreferenceFacts sc plans chainages (resolvePreference sc plans chainages) := by
  have hdefault := mem_defaultOrder_iff_usable chainages hlow hhigh
  cases hm : matchPlan sc.direction sc.chainage plans 0 with
  | none =>
    rw [resolvePreference_default sc hm]
    exact {
      nodup := defaultOrder_nodup sc chainages
      usable := fun i => (hdefault i).mp
      complete := fun i h _ => (hdefault i).mpr h
      ofPlan := nofun
      ofDefault := fun _ => rfl }
  | some found =>
    obtain ⟨n, p⟩ := found
    obtain ⟨hn, -, -⟩ := (matchPlan_eq_some_iff ..).mp hm
    rw [resolvePreference_plan sc hm (hrefs p (List.mem_of_getElem? hn)) hlow hhigh]
    have hsame {n' : Nat} {p' : Plan} (h : some n = some n') (hp : plans[n']? = some p') : p = p' :=
      Option.some.inj (hn.symm.trans (Option.some.inj h ▸ hp))
    exact {
      nodup := nodup_eraseDups _
      usable := fun i hi => (List.mem_filter.mp (List.mem_eraseDups.mp hi)).2
      complete := by
        rintro i h (hnone | ⟨n', p', h', hp, hopen⟩)
        · exact nomatch hnone
        · rw [← hsame h' hp] at hopen
          refine List.mem_eraseDups.mpr (List.mem_filter.mpr ⟨List.mem_append_right _ ?_, h⟩)
          rw [if_pos hopen]
          exact (hdefault i).mpr h
      ofPlan := fun n' p' h hp => by rw [hsame h hp]
      ofDefault := nofun }

/-- Settles O57: the first fit is what `matchPlan` finds, and the list is built from the walked positions. -/
theorem preferenceListHoldsUsableFansOnce : Obligations.PreferenceListHoldsUsableFansOnce := by
  intro sc plans chainages
  refine ⟨resolvePreference_fst_eq_some_iff sc plans, resolvePreference_fst_eq_none_iff sc plans,
    fun hlow hhigh hrefs => ?_⟩
  have facts := resolvePreference_facts sc plans chainages hlow hhigh hrefs
  exact ⟨facts.nodup, fun i hi => (sc.usable_iff chainages i).mp (facts.usable i hi),
    fun i x hx h => facts.complete i ((sc.usable_iff chainages i).mpr ⟨x, hx, h⟩), facts.ofPlan, facts.ofDefault⟩

end Sys2Proof.Machine
end

section
/-! What a command can do, packaged once for properties of the blocks: taking a frame, and every other command, by what
the state operation behind it makes of the property. -/

namespace Sys2Proof.Machine

/-- `t` is `s` but for the waiting commands, the feeder inputs, the link, the events and the RELOAD level. -/
structure State.SameBlocks (s t : State) : Prop where
  image : t.image = s.image
  line : t.line = s.line
  fans : t.fans = s.fans
  feeders : t.feeders = s.feeders
  air : t.air = s.air
  load : t.loader.load = s.loader.load
  loadError : t.loader.loadError = s.loader.loadError

/-- The property reads the image, the line, the fans, the feeders, the airflow unit and the load state alone. -/
def OfBlocks (P : State → Prop) : Prop := ∀ s t : State, s.SameBlocks t → P s → P t

/-- Every next state that the outcome gives has the property. -/
def Leads (r : Result) (Q : State → Prop) : Prop := ∀ t, r = .next t → Q t

theorem leads_next {Q : State → Prop} {t : State} (h : Q t) : Leads (.next t) Q := by
  rintro _ ⟨⟩
  exact h

theorem State.SameBlocks.settle (s : State) : s.SameBlocks s.settle := ⟨rfl, rfl, rfl, rfl, rfl, rfl, rfl⟩

/-- A property that holds of a state before the end of its operation holds after it. -/
theorem OfBlocks.settle {Q : State → Prop} (h : OfBlocks Q) {s : State} (hs : Q s) : Q s.settle :=
  h s _ (State.SameBlocks.settle s) hs

theorem leads_settle {Q : State → Prop} (h : OfBlocks Q) {s : State} (hs : Q s) : Leads (.next s.settle) Q :=
  leads_next (h.settle hs)

/-- From states with `P` every command and every idle step leads to states with `Q`: one field for each operation of the
blocks, under the conditions in which a command carries it out. -/
structure Meanings (P Q : State → Prop) : Prop where
  before : OfBlocks P
  after : OfBlocks Q
  weaken : ∀ {s}, P s → Q s
  idle : ∀ s, P s → Q s.idle
  reset : Q State.reset
  goodLoad : ∀ s memory m dir health, P s → s.loader.load = .reading → loadImage memory = .ok m →
    Q (s.goodLoad m dir health)
  failedLoad : ∀ s cause, P s → s.loader.load = .reading → Q (s.failedLoad cause)
  reload : ∀ s, P s → s.line.mode ≠ .loading → s.line.mode ≠ .fire → Q s.acceptReload
  activate : ∀ s n k req d, P s → s.noImage = false → s.line.scenario = none → Q (s.activate n k req d)
  update : ∀ s sc n k req, P s → s.line.scenario = some sc → Q (s.update n k req sc.direction)
  redirect : ∀ s sc n k req d, P s → s.line.scenario = some sc → Q (s.redirect n k req d)
  target : ∀ s v, P s → Q (s.modifyScenario (fun sc => { sc with pendingTarget := some (clampNat 100 600 v) }))
  thrust : ∀ s b, P s → Q (s.modifyScenario (fun sc => { sc with pendingFullThrust := some b }))
  endFire : ∀ s, P s → s.line.mode = .fire → Q s.endFire
  stop : ∀ s i, P s → s.noImage = false → s.line.mode ≠ .fire → i < s.fanCount → Q (s.writeDemand i .none)
  run : ∀ s i d, P s → s.noImage = false → s.line.mode ≠ .fire → i < s.fanCount → (s.fan i).refusesRun = false →
    Q (s.writeDemand i (.run d .routine))
  lockout : ∀ s i, P s → s.noImage = false → s.line.mode ≠ .fire → i < s.fanCount → Q (s.lockFan i)
  restore : ∀ s i, P s → s.noImage = false → i < s.fanCount → (s.fan i).trip = false → Q (s.restoreFan i)
  fallback : ∀ s, P s → Q s.linkFallback
  windowEnd : ∀ s health, P s → Leads (execWindowEnd health s) Q
  boundary : ∀ s, P s → Leads (execControlPeriodBoundary s) Q
  pulse : ∀ s n, P s → Q (s.onChannel n Channel.countPulse)
  dirChange : ∀ s n, P s → Q (s.onChannel n Channel.changeDir)
  healthLost : ∀ s n, P s → Q (s.onChannel n Channel.loseHealth)
  fbActive : ∀ s i, P s → Leads (execFbActive i s) Q
  fbInactive : ∀ s i, P s → Leads (execFbInactive i s) Q
  tripActive : ∀ s i, P s → Leads (execTripActive i s) Q
  tripInactive : ∀ s i, P s → Leads (execTripInactive i s) Q
  isoActive : ∀ s i, P s → Leads (execIsoActive i s) Q
  isoInactive : ∀ s i, P s → Leads (execIsoInactive i s) Q
  rampTimer : ∀ s i, P s → Leads (execRampTimerExpiry i s) Q
  confirmTimer : ∀ s i, P s → Leads (execConfirmTimerExpiry i s) Q
  coastTimer : ∀ s i, P s → Leads (execCoastTimerExpiry i s) Q
  stuckTimer : ∀ s i, P s → Leads (execStuckRunningTimerExpiry i s) Q
  feederDies : ∀ s n waits, P s → Q (s.feederDies n waits)
  moveFeeder : ∀ s n dest, P s → Q (s.moveFeeder n dest)
  feederReady : ∀ s n, P s → Q (s.feederReady n)

namespace Meanings

variable {P Q : State → Prop} (h : Meanings P Q) {s : State}
include h

/-! ### Requests -/

theorem refused (type : Byte) (reason : RefuseReason) (hs : P s) : Q (refuse type reason s).1 := h.weaken hs

/-- A request answered while an image is in use, if its answer in that case is right. -/
theorem withImage {type : Byte} {k : Served} (hs : P s) (hk : s.noImage = false → Q k.1) :
    Q (withImage type s k).1 := by
  unfold Machine.withImage
  split
  · exact h.refused type _ hs
  · rename_i himage
    exact hk (by simpa using himage)

/-- A request with a payload of a length it allows, if its answer in that case is right. -/
theorem withOperand {α : Type} {type : Byte} {operand : Option α} {k : α → Served} (hs : P s)
    (hk : ∀ a, Q (k a).1) : Q (withOperand type s operand k).1 := by
  unfold Machine.withOperand
  split
  · exact hk _
  · exact h.refused type _ hs

theorem serveIdentify (p : List Byte) (hs : P s) : Q (serveIdentify p s).1 := h.withOperand hs fun _ => h.weaken hs

theorem serveGetStatus (p : List Byte) (hs : P s) : Q (serveGetStatus p s).1 := h.withOperand hs fun _ => h.weaken hs

theorem serveGetFan (p : List Byte) (hs : P s) : Q (serveGetFan p s).1 := by
  refine h.withImage hs fun _ => h.withOperand hs fun i => ?_
  split <;> exact h.weaken hs

theorem serveGetFanTable (p : List Byte) (hs : P s) : Q (serveGetFanTable p s).1 :=
  h.withImage hs fun _ => h.withOperand hs fun _ => h.weaken hs

theorem serveGetDuty (p : List Byte) (hs : P s) : Q (serveGetDuty p s).1 :=
  h.withImage hs fun _ => h.withOperand hs fun _ => h.weaken hs

theorem serveGetQueue (p : List Byte) (hs : P s) : Q (serveGetQueue p s).1 := by
  refine h.withImage hs fun _ => h.withOperand hs fun n => ?_
  split <;> exact h.weaken hs

theorem serveGetAirflow (p : List Byte) (hs : P s) : Q (serveGetAirflow p s).1 :=
  h.withImage hs fun _ => h.withOperand hs fun _ => h.weaken hs

theorem serveReadEvents (p : List Byte) (hs : P s) : Q (serveReadEvents p s).1 :=
  h.withOperand hs fun _ => h.after s _ ⟨rfl, rfl, rfl, rfl, rfl, rfl, rfl⟩ (h.weaken hs)

theorem serveSetEventMask (p : List Byte) (hs : P s) : Q (serveSetEventMask p s).1 :=
  h.withOperand hs fun _ => h.after s _ ⟨rfl, rfl, rfl, rfl, rfl, rfl, rfl⟩ (h.weaken hs)

theorem serveActivateFire (p : List Byte) (hs : P s) : Q (serveActivateFire p s).1 := by
  refine h.withImage hs fun himage => h.withOperand hs fun req => ?_
  split
  · split
    · exact h.refused _ _ hs
    · split
      next hsc => exact h.activate s _ _ _ _ hs himage hsc
      next sc hsc =>
        split
        next hd =>
          subst hd
          exact h.update s sc _ _ _ hs hsc
        next => exact h.redirect s sc _ _ _ _ hs hsc
  · exact h.refused _ _ hs

theorem serveSetTarget (p : List Byte) (hs : P s) : Q (serveSetTarget p s).1 :=
  h.withImage hs fun _ => h.withOperand hs fun v =>
    ite_keeps (P := fun r : Served => Q r.1) (h.target s v hs) (h.refused _ _ hs)

theorem serveFullThrust (p : List Byte) (hs : P s) : Q (serveFullThrust p s).1 := by
  refine h.withImage hs fun _ => h.withOperand hs fun code => ite_keeps (P := fun r : Served => Q r.1) ?_
    (h.refused _ _ hs)
  split
  · exact h.thrust s _ hs
  · exact h.refused _ _ hs

theorem serveStandDown (p : List Byte) (hs : P s) : Q (serveStandDown p s).1 := by
  refine h.withImage hs fun _ => h.withOperand hs fun _ => ?_
  split
  next hmode => exact h.endFire s hs hmode
  next => exact h.refused _ _ hs

theorem serveFanCommand (p : List Byte) (hs : P s) : Q (serveFanCommand p s).1 := by
  refine h.withImage hs fun himage => h.withOperand hs fun a => ?_
  split
  · exact h.refused _ _ hs
  next hmode =>
    split
    · exact h.refused _ _ hs
    next hi =>
      have hi := Nat.not_le.mp hi
      split
      next => exact h.refused _ _ hs
      next => exact h.stop s _ hs himage hmode hi
      next d c hcode =>
        have hc : c = .routine := by
          unfold demandOfAction at hcode
          grind
        subst hc
        split
        · exact h.refused _ _ hs
        next hrefuses => exact h.run s _ d hs himage hmode hi (by simpa using hrefuses)

theorem serveLockout (p : List Byte) (hs : P s) : Q (serveLockout p s).1 := by
  refine h.withImage hs fun himage => h.withOperand hs fun i => ?_
  split
  · exact h.refused _ _ hs
  next hmode =>
    split
    · exact h.refused _ _ hs
    next hi => exact h.lockout s i hs himage hmode (Nat.not_le.mp hi)

theorem serveRestore (p : List Byte) (hs : P s) : Q (serveRestore p s).1 := by
  refine h.withImage hs fun himage => h.withOperand hs fun i => ?_
  split
  · exact h.refused _ _ hs
  next hi =>
    split
    · exact h.refused _ _ hs
    next hr => exact h.restore s i hs himage (Nat.not_le.mp hi) (by simp_all)

theorem serveReloadImage (p : List Byte) (hs : P s) : Q (serveReloadImage p s).1 := by
  unfold Machine.serveReloadImage
  split
  · exact h.refused _ _ hs
  next hloading =>
    refine h.withOperand hs fun _ => ?_
    split
    · exact h.refused _ _ hs
    next hfire =>
      split
      · exact h.refused _ _ hs
      next => exact h.reload s hs hloading hfire

theorem serveType (type : Byte) (p : List Byte) (hs : P s) : Q (serveType type p s).1 := by
  have choose {c : Prop} [Decidable c] {a b : Served} (ha : Q a.1) (hb : Q b.1) : Q (if c then a else b).1 :=
    ite_keeps (P := fun r : Served => Q r.1) ha hb
  exact choose (h.serveIdentify p hs) <| choose (h.serveGetStatus p hs) <| choose (h.serveGetFan p hs) <|
    choose (h.serveGetFanTable p hs) <| choose (h.serveGetDuty p hs) <| choose (h.serveGetQueue p hs) <|
    choose (h.serveGetAirflow p hs) <| choose (h.serveReadEvents p hs) <| choose (h.serveSetEventMask p hs) <|
    choose (h.serveActivateFire p hs) <| choose (h.serveSetTarget p hs) <| choose (h.serveFullThrust p hs) <|
    choose (h.serveStandDown p hs) <| choose (h.serveFanCommand p hs) <| choose (h.serveLockout p hs) <|
    choose (h.serveRestore p hs) <| choose (h.serveReloadImage p hs) (h.refused _ _ hs)

/-! ### Frames -/

/-- Work on the link and the events alone. -/
theorem link {t : State} (hs : P s) (hst : s.SameBlocks t) : Q t := h.after s t hst (h.weaken hs)

theorem receiveFrame {serve : State → Served} (hserve : ∀ {u}, P u → Q (serve u).1) (hs : P s) :
    Q (receiveFrame serve s) := by
  have hframe : P { s with link := s.link.goodFrame } := h.before s _ ⟨rfl, rfl, rfl, rfl, rfl, rfl, rfl⟩ hs
  unfold Machine.receiveFrame
  dsimp only
  split
  · exact h.after (serve { s with link := s.link.goodFrame }).1 _ ⟨rfl, rfl, rfl, rfl, rfl, rfl, rfl⟩ (hserve hframe)
  · exact h.link hframe ⟨rfl, rfl, rfl, rfl, rfl, rfl, rfl⟩

theorem receiveRequest {serve : State → Served} (n : Nat) (hserve : ∀ {u}, P u → Q (serve u).1) (hs : P s) :
    Leads (.next (receiveRequest n serve s)) Q := by
  refine leads_next (ite_keeps (P := Q) ?_ (h.receiveFrame hserve hs))
  exact h.link hs ⟨rfl, rfl, rfl, rfl, rfl, rfl, rfl⟩

theorem receiveByte (b : Byte) (stopBit : Bool) (hs : P s) : Q (receiveByte b stopBit s) := by
  unfold Machine.receiveByte
  dsimp only
  split
  · split <;> exact h.link hs ⟨rfl, rfl, rfl, rfl, rfl, rfl, rfl⟩
  next bytes _ =>
    have hgap : P { s with link := { s.link with gapMs := 0 } } := h.before s _ ⟨rfl, rfl, rfl, rfl, rfl, rfl, rfl⟩ hs
    refine ite_keeps (P := Q) ?_ (h.link hs ⟨rfl, rfl, rfl, rfl, rfl, rfl, rfl⟩)
    unfold collect
    dsimp only
    split
    · exact h.link hs ⟨rfl, rfl, rfl, rfl, rfl, rfl, rfl⟩
    · split
      · split <;> exact h.link hs ⟨rfl, rfl, rfl, rfl, rfl, rfl, rfl⟩
      · split
        · exact h.link hs ⟨rfl, rfl, rfl, rfl, rfl, rfl, rfl⟩
        · exact ite_keeps (P := Q) (h.receiveFrame (h.serveType _ _) hgap)
            (h.link hs ⟨rfl, rfl, rfl, rfl, rfl, rfl, rfl⟩)
  next => exact h.link hs ⟨rfl, rfl, rfl, rfl, rfl, rfl, rfl⟩

/-! ### Every command -/

theorem execLoadEnd (memory : List Byte) (dir health : BitVec 16) (hs : P s) :
    Leads (execLoadEnd memory dir health s) Q := by
  unfold Machine.execLoadEnd
  split
  · exact leads_next (h.weaken hs)
  next hload =>
    split
    next m hm => exact leads_settle h.after (h.goodLoad s memory m dir health hs hload hm)
    next cause _ => exact leads_next (h.failedLoad s cause hs hload)

theorem execReloadPulse (hs : P s) : Leads (execReloadPulse s) Q := by
  have hpulse : P { s with loader := { s.loader with reloadInput := true } } :=
    h.before s _ ⟨rfl, rfl, rfl, rfl, rfl, rfl, rfl⟩ hs
  unfold Machine.execReloadPulse
  dsimp only
  split
  next haccepted =>
    have hmode : s.line.mode = .configFault ∨ s.line.mode = .normal := by
      simp only [State.pulseAccepted, Bool.or_eq_true, Bool.and_eq_true, decide_eq_true_eq] at haccepted
      exact haccepted.imp id And.left
    refine leads_settle h.after (h.reload _ hpulse ?_ ?_) <;> rcases hmode with hm | hm <;> simp [hm]
  next => exact leads_next (h.link hs ⟨rfl, rfl, rfl, rfl, rfl, rfl, rfl⟩)

theorem execFrameGapTimeout (hs : P s) : Leads (execFrameGapTimeout s) Q := by
  unfold Machine.execFrameGapTimeout
  split
  · exact leads_next (h.weaken hs)
  · exact leads_next (h.link hs ⟨rfl, rfl, rfl, rfl, rfl, rfl, rfl⟩)
  · exact leads_next (h.link hs ⟨rfl, rfl, rfl, rfl, rfl, rfl, rfl⟩)

theorem execFrameSent (hs : P s) : Leads (execFrameSent s) Q := by
  unfold Machine.execFrameSent
  split
  · exact leads_next (h.weaken hs)
  · exact leads_next (h.link hs ⟨rfl, rfl, rfl, rfl, rfl, rfl, rfl⟩)

theorem execLinkTimeout (hs : P s) : Leads (execLinkTimeout s) Q := by
  unfold Machine.execLinkTimeout
  split
  · split
    · exact leads_settle h.after (h.fallback _ (h.before s _ ⟨rfl, rfl, rfl, rfl, rfl, rfl, rfl⟩ hs))
    · exact leads_next (h.weaken hs)
  · exact leads_next (h.weaken hs)
  · exact leads_next (h.weaken hs)

theorem execPulse (channel : Fin 16) (inLimits : Bool) (hs : P s) : Leads (execPulse channel inLimits s) Q := by
  have hcounted := h.pulse s channel hs
  unfold Machine.execPulse
  split
  · exact leads_next hcounted
  · dsimp only
    split
    · exact leads_next (h.after (s.onChannel channel Channel.countPulse) _ ⟨rfl, rfl, rfl, rfl, rfl, rfl, rfl⟩ hcounted)
    · exact leads_next (h.link hs ⟨rfl, rfl, rfl, rfl, rfl, rfl, rfl⟩)

theorem execAvailInactive (n : Fin 4) (hs : P s) : Leads (execAvailInactive n s) Q := by
  unfold Machine.execAvailInactive
  split
  · exact leads_next (h.weaken hs)
  · dsimp only
    split
    iterate 3 exact leads_settle h.after (h.feederDies _ _ _ (h.before s _ ⟨rfl, rfl, rfl, rfl, rfl, rfl, rfl⟩ hs))
    all_goals exact leads_next (h.link hs ⟨rfl, rfl, rfl, rfl, rfl, rfl, rfl⟩)

theorem execAvailActive (n : Fin 4) (hs : P s) : Leads (execAvailActive n s) Q := by
  unfold Machine.execAvailActive
  split
  · exact leads_next (h.weaken hs)
  · dsimp only
    split
    · exact leads_settle h.after (h.moveFeeder _ _ _ (h.before s _ ⟨rfl, rfl, rfl, rfl, rfl, rfl, rfl⟩ hs))
    all_goals exact leads_next (h.link hs ⟨rfl, rfl, rfl, rfl, rfl, rfl, rfl⟩)

theorem execVlowActive (n : Fin 4) (hs : P s) : Leads (execVlowActive n s) Q := by
  unfold Machine.execVlowActive
  split
  · exact leads_next (h.weaken hs)
  · dsimp only
    split
    iterate 2 exact leads_settle h.after (h.moveFeeder _ _ _ (h.before s _ ⟨rfl, rfl, rfl, rfl, rfl, rfl, rfl⟩ hs))
    all_goals exact leads_next (h.link hs ⟨rfl, rfl, rfl, rfl, rfl, rfl, rfl⟩)

theorem execVlowInactive (n : Fin 4) (hs : P s) : Leads (execVlowInactive n s) Q := by
  unfold Machine.execVlowInactive
  split
  · exact leads_next (h.weaken hs)
  · dsimp only
    split
    · exact leads_settle h.after (h.moveFeeder _ _ _ (h.before s _ ⟨rfl, rfl, rfl, rfl, rfl, rfl, rfl⟩ hs))
    all_goals exact leads_next (h.link hs ⟨rfl, rfl, rfl, rfl, rfl, rfl, rfl⟩)

theorem execSettleTimerExpiry (n : Fin 4) (hs : P s) : Leads (execSettleTimerExpiry n s) Q := by
  unfold Machine.execSettleTimerExpiry
  split
  · exact leads_settle h.after (h.feederReady s n hs)
  all_goals exact leads_next (h.weaken hs)

/-- Every command leads from `P` to `Q`. -/
theorem exec (c : Instr) (hs : P s) : Leads (exec c s) Q := by
  cases c with
  | fullReset => exact leads_next (h.after State.reset _ ⟨rfl, rfl, rfl, rfl, rfl, rfl, rfl⟩ h.reset)
  | loadEnd memory dir health => exact h.execLoadEnd memory dir health hs
  | reloadPulse => exact h.execReloadPulse hs
  | identify p => exact h.receiveRequest _ (h.serveIdentify p) hs
  | getStatus p => exact h.receiveRequest _ (h.serveGetStatus p) hs
  | getFan p => exact h.receiveRequest _ (h.serveGetFan p) hs
  | getFanTable p => exact h.receiveRequest _ (h.serveGetFanTable p) hs
  | getDuty p => exact h.receiveRequest _ (h.serveGetDuty p) hs
  | getQueue p => exact h.receiveRequest _ (h.serveGetQueue p) hs
  | getAirflow p => exact h.receiveRequest _ (h.serveGetAirflow p) hs
  | readEvents p => exact h.receiveRequest _ (h.serveReadEvents p) hs
  | setEventMask p => exact h.receiveRequest _ (h.serveSetEventMask p) hs
  | activateFire p => exact h.receiveRequest _ (h.serveActivateFire p) hs
  | setTarget p => exact h.receiveRequest _ (h.serveSetTarget p) hs
  | fullThrust p => exact h.receiveRequest _ (h.serveFullThrust p) hs
  | standDown p => exact h.receiveRequest _ (h.serveStandDown p) hs
  | fanCommand p => exact h.receiveRequest _ (h.serveFanCommand p) hs
  | lockout p => exact h.receiveRequest _ (h.serveLockout p) hs
  | restore p => exact h.receiveRequest _ (h.serveRestore p) hs
  | reloadImage p => exact h.receiveRequest _ (h.serveReloadImage p) hs
  | unknownType type p => exact h.receiveRequest _ (h.serveType type p) hs
  | frameDiscarded type p => exact h.receiveRequest _ (h.serveType type p) hs
  | frameDropped cause => exact leads_next (h.link hs ⟨rfl, rfl, rfl, rfl, rfl, rfl, rfl⟩)
  | frameGapTimeout => exact h.execFrameGapTimeout hs
  | frameSent => exact h.execFrameSent hs
  | linkTimeout => exact h.execLinkTimeout hs
  | windowEnd health => exact h.windowEnd s health hs
  | controlPeriodBoundary => exact h.boundary s hs
  | pulse channel inLimits => exact h.execPulse channel inLimits hs
  | anemometerDirChange channel => exact leads_next (h.dirChange s channel hs)
  | healthLost channel => exact leads_next (h.healthLost s channel hs)
  | fbActive fan => exact h.fbActive s fan hs
  | fbInactive fan => exact h.fbInactive s fan hs
  | tripActive fan => exact h.tripActive s fan hs
  | tripInactive fan => exact h.tripInactive s fan hs
  | isoActive fan => exact h.isoActive s fan hs
  | isoInactive fan => exact h.isoInactive s fan hs
  | rampTimerExpiry fan => exact h.rampTimer s fan hs
  | confirmTimerExpiry fan => exact h.confirmTimer s fan hs
  | coastTimerExpiry fan => exact h.coastTimer s fan hs
  | stuckRunningTimerExpiry fan => exact h.stuckTimer s fan hs
  | availInactive feeder => exact h.execAvailInactive feeder hs
  | availActive feeder => exact h.execAvailActive feeder hs
  | vlowActive feeder => exact h.execVlowActive feeder hs
  | vlowInactive feeder => exact h.execVlowInactive feeder hs
  | settleTimerExpiry feeder => exact h.execSettleTimerExpiry feeder hs
  | byteReceived byte stopBit => exact leads_next (h.receiveByte byte stopBit hs)

/-- Every step leads from `P` to `Q`. -/
theorem step (hs : P s) : Leads (step s) Q := by
  unfold Machine.step
  split
  · exact leads_next (h.idle s hs)
  next c rest _ => exact h.exec c (h.before s _ ⟨rfl, rfl, rfl, rfl, rfl, rfl, rfl⟩ hs)

end Meanings

/-- An event of a fan group, acted on or not. -/
theorem leads_atFan {Q : State → Prop} (h : OfBlocks Q) {s : State} {i : Nat} {act : Fan → State → State} (hs : Q s)
    (hact : i < s.fanCount → Q (act (s.fan i) s)) : Leads (.next (s.atFan i act)) Q := by
  refine leads_next ?_
  unfold State.atFan
  split
  next hi => exact h.settle (hact hi)
  next => exact hs

end Sys2Proof.Machine
end

section
/-! Who holds a run demand (R53, R54, R57, R95): the invariant with what every operation needs of it, the operations that
touch neither members nor demands, and those that do. -/

namespace Sys2Proof.Machine

/-! ### The invariant -/

/-- The members fit their demands, but that fans for which `X` holds may hold any demand outside the duty set; the scenario
record is present exactly in FIRE, and outside it nobody is a member. -/
structure State.MembersBut (X : Nat → Prop) (s : State) : Prop where
  member : ∀ sc, s.line.scenario = some sc → ∀ i, s.isMember i = true →
    (s.fan i).demand = .run sc.direction .urgent ∧ ((s.fan i).state.isWorking = true ∨ i ∈ s.line.reports)
  others : s.line.mode = .fire → ∀ i, s.isMember i = false → (s.fan i).demand = .none ∨ X i
  routine : s.line.mode = .normal → ∀ i d c, (s.fan i).demand = .run d c → c = .routine
  fire : s.line.mode = .fire ↔ s.line.scenario.isSome = true
  empty : s.line.mode ≠ .fire → s.line.duty = []

/-- `State.MembersOk` with what the operations need of the line mode. -/
abbrev State.MembersFit (s : State) : Prop := s.MembersBut fun _ => False

theorem State.MembersFit.membersOk {s : State} (h : s.MembersFit) : s.MembersOk :=
  ⟨h.member, fun hmode i hm => (h.others hmode i hm).resolve_right id, h.routine⟩

theorem State.MembersBut.mono {s : State} {X Y : Nat → Prop} (h : s.MembersBut X) (hX : ∀ i, X i → Y i) :
    s.MembersBut Y := { h with others := fun hmode i hm => (h.others hmode i hm).imp_right (hX i) }

/-- From `s` to `t` no membership, demand, mode or direction has changed, and every member that was usable still is, or
has a loss report that waits. -/
structure State.MembersKept (s t : State) : Prop where
  mode : t.line.mode = s.line.mode
  direction : t.line.scenario.map Scenario.direction = s.line.scenario.map Scenario.direction
  duty : t.line.duty.map (fun x => x.fan) = s.line.duty.map (fun x => x.fan)
  reports : ∀ i, i ∈ s.line.reports → i ∈ t.line.reports
  demand : ∀ i, (t.fan i).demand = (s.fan i).demand
  working : ∀ i, s.isMember i = true → (s.fan i).state.isWorking = true →
    (t.fan i).state.isWorking = true ∨ i ∈ t.line.reports

theorem State.isMember_iff_mem_fans (s : State) (i : Nat) :
    s.isMember i = true ↔ i ∈ s.line.duty.map (fun x => x.fan) := by
  rw [s.isMember_iff, List.mem_map]

theorem State.MembersKept.isMember {s t : State} (h : s.MembersKept t) (i : Nat) : t.isMember i = s.isMember i := by
  rw [Bool.eq_iff_iff, State.isMember_iff_mem_fans, State.isMember_iff_mem_fans, h.duty]

theorem State.MembersKept.refl (s : State) : s.MembersKept s :=
  ⟨rfl, rfl, rfl, fun _ => id, fun _ => rfl, fun _ _ => .inl⟩

theorem State.MembersKept.trans {s t u : State} (a : s.MembersKept t) (b : t.MembersKept u) : s.MembersKept u where
  mode := b.mode.trans a.mode
  direction := b.direction.trans a.direction
  duty := b.duty.trans a.duty
  reports i h := b.reports i (a.reports i h)
  demand i := (b.demand i).trans (a.demand i)
  working i hm hw := (a.working i hm hw).elim (b.working i ((a.isMember i).trans hm)) fun h => .inr (b.reports i h)

theorem State.MembersBut.kept {s t : State} {X : Nat → Prop} (h : s.MembersBut X) (k : s.MembersKept t) :
    t.MembersBut X where
  member sc hsc i hm := by
    have hold : s.line.scenario.map Scenario.direction = some sc.direction := by rw [← k.direction, hsc]; rfl
    obtain ⟨old, hsc, hdirection⟩ := Option.map_eq_some_iff.mp hold
    rw [k.isMember] at hm
    obtain ⟨hdemand, hworking⟩ := h.member old hsc i hm
    exact ⟨by rw [k.demand, hdemand, hdirection], hworking.elim (k.working i hm) fun hr => .inr (k.reports i hr)⟩
  others hmode i hm := by
    rw [k.demand]
    exact h.others (k.mode ▸ hmode) i (k.isMember i ▸ hm)
  routine hmode i d c hd := h.routine (k.mode ▸ hmode) i d c (k.demand i ▸ hd)
  fire := by
    rw [k.mode, h.fire, ← Option.isSome_map (f := Scenario.direction), ← k.direction, Option.isSome_map]
  empty hmode := by
    have := k.duty
    rw [h.empty (k.mode ▸ hmode)] at this
    exact List.map_eq_nil_iff.mp this

theorem State.MembersFit.kept {s t : State} (h : s.MembersFit) (k : s.MembersKept t) : t.MembersFit :=
  State.MembersBut.kept h k

/-! ### Operations that touch neither members nor demands -/

/-- Work on the fans alone that leaves every demand, and every fan usable, touches no member. -/
theorem State.MembersKept.of_line {s t : State} (hline : t.line = s.line)
    (hdemand : ∀ i, (t.fan i).demand = (s.fan i).demand)
    (hworking : ∀ i, (s.fan i).state.isWorking = true → (t.fan i).state.isWorking = true) : s.MembersKept t :=
  ⟨by rw [hline], by rw [hline], by rw [hline], fun i h => by rw [hline]; exact h, hdemand,
    fun i _ hw => .inl (hworking i hw)⟩

theorem State.MembersKept.modifyFan (s : State) (i : Nat) (f : Fan → Fan) (hd : ∀ g, (f g).demand = g.demand)
    (hw : ∀ g, g.state.isWorking = true → (f g).state.isWorking = true) : s.MembersKept (s.modifyFan i f) :=
  .of_line rfl (s.modifyFan_demand i f hd) fun j hj =>
    State.fan_modifyFan_prop (P := fun g g' => g.state.isWorking = true → g'.state.isWorking = true) s i f (fun _ => id)
      hw j hj

theorem State.MembersKept.starts {s t : State} (h : s.OnlyStarts t) (hline : t.line = s.line) : s.MembersKept t :=
  .of_line hline h.demand fun i hw => (h.isWorking i).trans hw

theorem State.MembersKept.blocks {s t : State} (h : s.SameBlocks t) : s.MembersKept t :=
  .of_line h.line (fun i => by rw [State.fan_congr h.fans]) fun i hw => by rw [State.fan_congr h.fans]; exact hw

theorem State.MembersKept.modifyScenario (s : State) (f : Scenario → Scenario)
    (h : ∀ sc, s.line.scenario = some sc → (f sc).direction = sc.direction) : s.MembersKept (s.modifyScenario f) := by
  refine { State.MembersKept.refl s with direction := ?_ }
  cases hs : s.line.scenario with
  | none => simp [hs]
  | some sc => simp [hs, h sc hs]

theorem State.MembersKept.setDuty (s : State) (d : List Member) (h : d.map (fun x => x.fan) = s.line.duty.map (fun x => x.fan)) :
    s.MembersKept (s.setDuty d) := { State.MembersKept.refl s with duty := h }

theorem State.MembersKept.freeSlot (s : State) (i : Nat) : s.MembersKept (s.freeSlot i) :=
  .starts (State.OnlyStarts.freeSlot s i) (s.freeSlot_rest i).1

theorem State.MembersKept.enterQueued (s : State) (i : Nat) (d : Direction) (c : DemandClass) :
    s.MembersKept (s.enterQueued i d c) :=
  (State.MembersKept.modifyFan s i (fun f => { f with state := .queued }) (fun _ => rfl) fun _ _ => rfl).trans
    (.starts (State.OnlyStarts.requestStart _ i d c) (State.requestStart_rest _ i d c).1)

theorem State.MembersKept.toIdle (s : State) (i : Nat) : s.MembersKept (s.toIdle i) := by
  refine (State.MembersKept.modifyFan s i (fun f => { f with state := .idle }) (fun _ => rfl) fun _ _ => rfl).trans ?_
  unfold State.toIdle
  dsimp only
  split
  · exact State.MembersKept.enterQueued ..
  · exact State.MembersKept.refl _

theorem OfBlocks.membersFit : OfBlocks State.MembersFit := fun _ _ hb h => h.kept (.blocks hb)

/-- Work of the frame leaves the active direction. -/
theorem State.FieldWork.direction {s t : State} (h : State.FieldWork s t) :
    t.line.scenario.map Scenario.direction = s.line.scenario.map Scenario.direction := by
  have hcore := congrArg (Option.map Scenario.direction) h.scenario
  rw [Option.map_map, Option.map_map] at hcore
  exact hcore

/-! ### Joins and departures -/

/-- A departure in which nobody else leaves the list of waiting reports (R54, R69). -/
theorem State.MembersFit.removeMember {s : State} {i : Nat} {rs : List Nat} (h : s.MembersFit)
    (hr : ∀ j ∈ s.line.reports, j = i ∨ j ∈ rs) :
    (State.removeMember { s with line := { s.line with reports := rs } } i).MembersFit := by
  set u : State := { s with line := { s.line with reports := rs } }
  have hline : (u.removeMember i).line = { u.line with
      duty := u.line.duty.filter (fun x => !decide (x.fan = i))
      scenario := u.line.scenario.map (fun sc => { sc with membershipChanged := true }) } :=
    (State.writeDemand_rest _ i .none).1
  have hself : ((u.removeMember i).fan i).demand = .none := by
    rcases Nat.lt_or_ge i u.fanCount with hlt | hge
    · exact State.writeDemand_demand _ i .none hlt
    · rw [State.fan_none _ i ((State.FieldWork.removeMember u i).fanCount.trans_le hge)]
      rfl
  have hother : ∀ j, j ≠ i → ((u.removeMember i).fan j).demand = (s.fan j).demand := fun j hj =>
    State.writeDemand_demand_ne _ i j .none hj
  have hworking : ∀ j, ((u.removeMember i).fan j).state.isWorking = (s.fan j).state.isWorking := fun j =>
    State.writeDemand_isWorking _ i .none j
  have hmember : ∀ j, (u.removeMember i).isMember j = (s.isMember j && !decide (j = i)) := u.isMember_removeMember i
  refine ⟨fun sc hsc j hm => ?_, fun hmode j hm => .inl ?_, fun hmode j d c hd => ?_, ?_, fun hmode => ?_⟩
  · obtain ⟨old, hold, rfl⟩ := Option.map_eq_some_iff.mp (show s.line.scenario.map _ = some sc by rw [← hsc, hline])
    obtain ⟨hjs, hji⟩ : s.isMember j = true ∧ j ≠ i := by simpa [hmember] using hm
    obtain ⟨hdemand, hw⟩ := h.member old hold j hjs
    refine ⟨by rw [hother j hji, hdemand], hw.imp (fun hw => (hworking j).trans hw) fun hj => ?_⟩
    rw [hline]
    exact (hr j hj).resolve_left hji
  · by_cases hji : j = i
    · exact hji ▸ hself
    · rw [hother j hji]
      rw [hline] at hmode
      exact (h.others hmode j (by simpa [hmember, hji] using hm)).resolve_right id
  · by_cases hji : j = i
    · rw [hji, hself] at hd
      cases hd
    · exact h.routine (by rw [hline] at hmode; exact hmode) j d c (hother j hji ▸ hd)
  · rw [hline]
    simpa [u] using h.fire
  · rw [hline] at hmode ⊢
    simp [u, h.empty hmode]

/-- A join of a usable fan in the active direction (R53). -/
theorem State.MembersBut.joinMember {s : State} {X : Nat → Prop} {d : Direction} {i : Nat} (r : JoinReason) (n : Nat)
    (h : s.MembersBut X) (hd : s.line.scenario.map Scenario.direction = some d) (hi : i < s.fanCount)
    (hw : (s.fan i).state.isWorking = true) : (s.joinMember d i r n).MembersBut (fun j => X j ∧ j ≠ i) := by
  set t := s.joinMember d i r n
  have hline : t.line = { s.line with
      duty := s.line.duty ++ [{ fan := i, reason := r, counted := n, expired := (s.fan i).expired }]
      scenario := s.line.scenario.map (fun sc => { sc with membershipChanged := true }) } :=
    (State.writeDemand_rest _ i _).1
  have hself : (t.fan i).demand = .run d .urgent := State.writeDemand_demand _ i _ hi
  have hother : ∀ j, j ≠ i → (t.fan j).demand = (s.fan j).demand := fun j hj => State.writeDemand_demand_ne _ i j _ hj
  have hworking : ∀ j, (t.fan j).state.isWorking = (s.fan j).state.isWorking := fun j =>
    State.writeDemand_isWorking _ i _ j
  have hmember : ∀ j, t.isMember j = (s.isMember j || decide (i = j)) := fun j => State.isMember_joinMember ..
  have hfire : s.line.mode = .fire := h.fire.mpr (by
    rw [← Option.isSome_map (f := Scenario.direction), hd]; rfl)
  refine ⟨fun now hnow j hm => ?_, fun _ j hm => ?_, fun hmode => ?_, ?_, fun hmode => ?_⟩
  · obtain ⟨old, hold, rfl⟩ := Option.map_eq_some_iff.mp (show s.line.scenario.map _ = some now by rw [← hnow, hline])
    have hdirection : old.direction = d := by rw [hold] at hd; exact Option.some.inj hd
    by_cases hji : j = i
    · subst hji
      exact ⟨by rw [hself, hdirection], .inl ((hworking j).trans hw)⟩
    · obtain ⟨hdemand, hj⟩ := h.member old hold j (by simpa [hmember, Ne.symm hji] using hm)
      refine ⟨by rw [hother j hji, hdemand], hj.imp (fun hj => (hworking j).trans hj) fun hj => ?_⟩
      rw [hline]
      exact hj
  · obtain ⟨hjs, hij⟩ : s.isMember j = false ∧ ¬ i = j := by simpa [hmember] using hm
    rw [hother j (Ne.symm hij)]
    exact (h.others hfire j hjs).imp_right fun hX => ⟨hX, Ne.symm hij⟩
  · rw [hline] at hmode
    exact absurd (hfire.symm.trans hmode) (by decide)
  · rw [hline]
    simpa using h.fire
  · rw [hline] at hmode
    exact absurd hfire hmode

/-! ### The evaluation -/

/-- A property that the operations of an evaluation under direction `d` keep. -/
structure EvaluationKeeps (d : Direction) (P : State → Prop) : Prop where
  record : ∀ s f, (∀ sc : Scenario, (f sc).core = sc.core) → P s → P (s.modifyScenario f)
  refresh : ∀ s, P s → P s.refreshShortfall
  recompute : ∀ s sc, P s → P (s.recompute sc)
  join : ∀ s i r n, P s → i < s.fanCount → (s.fan i).state.isWorking = true → P (s.joinMember d i r n)
  remove : ∀ s i, P s → P (s.removeMember i)

section
variable {d : Direction} {P : State → Prop} (h : EvaluationKeeps d P)
include h

/-- One candidate joined out of a list of fans that may join: the others still may. -/
theorem EvaluationKeeps.joined {s : State} {i : Nat} {is : List Nat} (r : JoinReason) (n : Nat) (hs : P s)
    (hl : ∀ j ∈ i :: is, j < s.fanCount ∧ (s.fan j).state.isWorking = true) : P (s.joinMember d i r n) ∧
      ∀ j ∈ is, j < (s.joinMember d i r n).fanCount ∧ ((s.joinMember d i r n).fan j).state.isWorking = true := by
  have hfigures := DutyFrame.figures.join s d i r n
  obtain ⟨hi, hw⟩ := hl i List.mem_cons_self
  refine ⟨h.join s i r n hs hi hw, fun j hj => ?_⟩
  rw [hfigures.fanCount, hfigures.working]
  exact hl j (List.mem_cons_of_mem i hj)

theorem EvaluationKeeps.joinAll {sc : Scenario} (hd : sc.direction = d) (l : List Nat) {s : State} (hs : P s)
    (hl : ∀ i ∈ l, i < s.fanCount ∧ (s.fan i).state.isWorking = true) : P (joinAll sc s l) := by
  subst hd
  induction l generalizing s with
  | nil => exact hs
  | cons i is ih =>
    obtain ⟨hjoined, hrest⟩ := h.joined .full (s.countedFor sc i) hs hl
    exact ih hjoined hrest

theorem EvaluationKeeps.joinNeeded {sc : Scenario} (hd : sc.direction = d) (required : Nat) (l : List Nat) {s : State}
    (sum : Nat) (hs : P s) (hl : ∀ i ∈ l, i < s.fanCount ∧ (s.fan i).state.isWorking = true) :
    P (joinNeeded sc required s sum l).1 := by
  subst hd
  induction l generalizing s sum with
  | nil => exact hs
  | cons i is ih =>
    obtain ⟨hjoined, hrest⟩ := h.joined .need (s.countedFor sc i) hs hl
    exact ite_keeps (P := fun r : State × Nat × List Nat => P r.1) hs (ih _ hjoined hrest)

theorem EvaluationKeeps.joinToSize {sc : Scenario} (hd : sc.direction = d) (size k redundancy : Nat) (l : List Nat)
    {s : State} (hs : P s) (hl : ∀ i ∈ l, i < s.fanCount ∧ (s.fan i).state.isWorking = true) :
    P (joinToSize sc size k redundancy s l) := by
  subst hd
  induction l generalizing s with
  | nil => exact hs
  | cons i is ih =>
    unfold Machine.joinToSize
    dsimp only
    split
    · obtain ⟨hjoined, hrest⟩ := h.joined _ (s.countedFor sc i) hs hl
      exact ih hjoined hrest
    · exact hs

theorem EvaluationKeeps.releaseMany (n : Nat) {s : State} (hs : P s) : P (releaseMany n s) := by
  induction n generalizing s with
  | zero => exact hs
  | succ n ih =>
    refine ih ?_
    unfold State.releaseLast
    split
    · exact h.remove s _ hs
    · exact hs

theorem EvaluationKeeps.evaluate {s : State} (hd : ∀ sc, s.line.scenario = some sc → sc.direction = d) (hs : P s) :
    P s.evaluate := by
  cases hsc : s.line.scenario with
  | none =>
    have hsame : s.evaluate = s := by unfold State.evaluate; rw [hsc]
    rw [hsame]
    exact hs
  | some sc =>
    have hprepared : P (s.prepared sc) := h.recompute _ sc (forEach_inv h.remove _ _ (h.record s _ (fun _ => rfl) hs))
    have hcandidates : ∀ i ∈ (s.prepared sc).candidates sc,
        i < (s.prepared sc).fanCount ∧ ((s.prepared sc).fan i).state.isWorking = true := fun i hi => by
      have hcandidate := ((State.mem_candidates _ sc i).mp hi).2
      simp only [State.isCandidate, Bool.and_eq_true, decide_eq_true_eq] at hcandidate
      exact ⟨hcandidate.1.1.1.1, hcandidate.2⟩
    have hrecord : ∀ {t : State} (b : Bool), P t → P (t.recordShortfall b) := fun b ht =>
      h.refresh _ (h.record _ _ (fun _ => rfl) ht)
    have hd := hd sc hsc
    cases hfull : sc.fullThrust
    · rw [s.evaluate_size sc hsc hfull]
      obtain ⟨joined, rest, hsplit, -, -, hrest, -⟩ := (s.prepared sc).need_spec sc (s.requiredFor sc)
      have hneed : P ((s.prepared sc).need sc (s.requiredFor sc)).1 := h.joinNeeded hd _ _ _ hprepared hcandidates
      have hfigures := DutyFrame.figures.joinNeeded sc (s.requiredFor sc) (s.prepared sc)
        (countedSum (nonExpired (s.prepared sc).line.duty)) ((s.prepared sc).candidates sc)
      refine hrecord _ (ite_keeps (P := P) (h.joinToSize hd _ _ _ _ hneed fun i hi => ?_) (h.releaseMany _ hneed))
      rw [hrest] at hi
      obtain ⟨hcount, hworking⟩ := hcandidates i (by rw [hsplit]; exact List.mem_append_right _ hi)
      exact ⟨hcount.trans_eq hfigures.fanCount.symm, (hfigures.working i).trans hworking⟩
    · rw [s.evaluate_full sc hsc hfull]
      exact hrecord _ (h.joinAll hd _ hprepared hcandidates)

end

/-- The operations of an evaluation keep members and demands together (R53, R54). -/
theorem EvaluationKeeps.membersFit (d : Direction) : EvaluationKeeps d (fun s => s.MembersFit ∧
    s.line.scenario.map Scenario.direction = some d) where
  record s f hf hs := by
    have hdirection : ∀ sc, (f sc).direction = sc.direction := fun sc => (congrArg Scenario.direction (hf sc) :)
    have hkept := State.MembersKept.modifyScenario s f fun sc _ => hdirection sc
    exact ⟨hs.1.kept hkept, hkept.direction.trans hs.2⟩
  refresh s hs := ⟨hs.1.kept (.blocks ⟨rfl, rfl, rfl, rfl, rfl, rfl, rfl⟩), hs.2⟩
  recompute s sc hs := ⟨hs.1.kept (.setDuty s _ (by rw [List.map_map]; rfl)), hs.2⟩
  join s i r n hs hi hw := by
    refine ⟨(hs.1.joinMember r n hs.2 hi hw).mono fun _ => And.left, ?_⟩
    rw [(State.FieldWork.joinMember s d i r n).direction, hs.2]
  remove s i hs := by
    refine ⟨hs.1.removeMember (rs := s.line.reports) fun j => .inr, ?_⟩
    rw [(State.FieldWork.removeMember s i).direction, hs.2]

/-- An evaluation keeps members and demands together (R53, R54, R56). -/
theorem State.MembersFit.evaluate {s : State} (h : s.MembersFit) : s.evaluate.MembersFit := by
  cases hsc : s.line.scenario with
  | none =>
    have hsame : s.evaluate = s := by unfold State.evaluate; rw [hsc]
    rw [hsame]
    exact h
  | some sc =>
    refine ((EvaluationKeeps.membersFit sc.direction).evaluate (fun now hnow => ?_) ⟨h, by rw [hsc]; rfl⟩).1
    rw [← Option.some.inj (hsc.symm.trans hnow)]

/-! ### Losses and placings -/

/-- A loss report taken (R69): a member leaves, and the line is evaluated. -/
theorem State.MembersFit.reportLoss {s : State} {i : Nat} {rs : List Nat} (h : s.MembersFit)
    (hr : ∀ j ∈ s.line.reports, j = i ∨ j ∈ rs) :
    (State.reportLoss { s with line := { s.line with reports := rs } } i).MembersFit := by
  unfold State.reportLoss
  split
  · exact (h.removeMember hr).evaluate
  next hm =>
    refine ⟨fun sc hsc j hj => ?_, h.others, h.routine, h.fire, h.empty⟩
    obtain ⟨hdemand, hw⟩ := h.member sc hsc j hj
    exact ⟨hdemand, hw.imp_right fun hreported => (hr j hreported).resolve_left fun hji => hm (hji ▸ hj)⟩

theorem State.MembersFit.takeReport {s : State} (h : s.MembersFit) : s.takeReport.MembersFit := by
  unfold State.takeReport
  split
  next i rest hrs => exact h.reportLoss fun j hj => List.mem_cons.mp (hrs ▸ hj)
  next => exact h

/-- An entry to a holding state leaves every demand (R113). -/
theorem State.holdFan_demand (s : State) (i : Nat) (dest : FanState) (fault : Option LastFault)
    (hd : dest.isHolding = true) (j : Nat) : ((s.holdFan i dest fault).fan j).demand = (s.fan j).demand := by
  have hheld := s.holdFan_held i dest fault hd
  by_cases hj : j = i
  · subst hj
    rcases Nat.lt_or_ge j s.fanCount with hlt | hge
    · rw [hheld.fan hlt]
      rfl
    · rw [State.fan_none s j hge, State.fan_none _ j ((s.holdFan_fanCount j dest fault).trans_le hge)]
  · rcases hheld.others j hj with h | ⟨-, d, h⟩ <;> rw [h]
    rfl

/-- An entry to a holding state whose report waits, or that of no member, touches no member (R69, R113). -/
theorem State.MembersKept.held {s : State} {i : Nat} {dest : FanState} {fault : Option LastFault} {rs : List Nat}
    (hd : dest.isHolding = true) (hr : ∀ j ∈ s.line.reports, j ∈ rs) (hi : s.isMember i = true → i ∈ rs) :
    s.MembersKept { s.holdFan i dest fault with line := { s.line with reports := rs } } := by
  refine { State.MembersKept.refl s with
    reports := hr, demand := s.holdFan_demand i dest fault hd, working := fun j hm hw => ?_ }
  by_cases hj : j = i
  · exact .inr (hj ▸ hi (hj ▸ hm))
  · rcases (s.holdFan_held i dest fault hd).others j hj with h | ⟨-, d, h⟩
    · exact .inl ((congrArg (fun f : Fan => f.state.isWorking) h).trans hw)
    · exact .inl (congrArg (fun f : Fan => f.state.isWorking) h)

theorem State.MembersFit.enterHolding {s : State} (h : s.MembersFit) (i : Nat) (dest : FanState)
    (fault : Option LastFault) (hd : dest.isHolding = true) : (s.enterHolding i dest fault).MembersFit := by
  have hkept : s.MembersKept { s.holdFan i dest fault with
      line := { s.line with reports := i :: s.line.reports } } :=
    .held hd (fun _ => List.mem_cons_of_mem i) fun _ => List.mem_cons_self
  have hreported := (h.kept hkept).reportLoss (i := i) (rs := s.line.reports) fun j hj => List.mem_cons.mp hj
  unfold State.enterHolding
  convert hreported using 2
  rw [← State.holdFan_line s i dest fault]

theorem State.MembersFit.loseFan {s : State} (h : s.MembersFit) (i : Nat) (dest : FanState)
    (fault : Option LastFault) (waits : Bool) (hd : dest.isHolding = true) : (s.loseFan i dest fault waits).MembersFit := by
  unfold State.loseFan State.sendReport
  refine ite_keeps (P := State.MembersFit) (h.kept ?_) (h.enterHolding i dest fault hd)
  rw [State.holdFan_line]
  exact .held hd (fun _ => List.mem_append_left _) fun _ => by simp

theorem State.MembersFit.tripFan {s : State} (h : s.MembersFit) (i : Nat) (fault : LastFault) (waits : Bool) :
    (s.tripFan i fault waits).MembersFit := h.loseFan i _ _ waits (by split <;> rfl)

theorem State.MembersFit.placeFan {s : State} (h : s.MembersFit) (i : Nat) : (s.placeFan i).MembersFit := by
  refine ite_keeps (P := State.MembersFit) (h.enterHolding i _ _ rfl) <|
    ite_keeps (P := State.MembersFit) (h.enterHolding i _ _ rfl) <|
    ite_keeps (P := State.MembersFit) (h.tripFan i _ _) <|
    ite_keeps (P := State.MembersFit) (h.kept (.toIdle s i)) (h.kept ?_)
  exact .modifyFan s i _ (fun _ => rfl) fun _ _ => rfl

theorem State.MembersFit.examineRestart {s : State} (h : s.MembersFit) (i : Nat) : (s.examineRestart i).MembersFit :=
  ite_keeps (P := State.MembersFit) ((h.kept (.modifyFan s i (fun f => { f with restartUsed := true }) (fun _ => rfl)
    fun _ => id)).placeFan i) h

theorem State.MembersFit.examinePower {s : State} (h : s.MembersFit) (i : Nat) : (s.examinePower i).MembersFit :=
  ite_keeps (P := State.MembersFit) (h.placeFan i) h

theorem State.MembersFit.losePowers (waits : Bool) (l : List Nat) {s : State} (h : s.MembersFit) :
    (s.losePowers waits l).MembersFit := by
  induction l generalizing s with
  | nil => exact h
  | cons i is ih => exact ih (ite_keeps (P := State.MembersFit) (h.loseFan i _ _ _ rfl) h)

/-! ### Feeders -/

theorem State.MembersKept.moveFeeder (s : State) (n : Nat) (dest : FeederState) : s.MembersKept (s.moveFeeder n dest) :=
  .of_line rfl (fun _ => rfl) fun _ => id

theorem State.MembersFit.feederDies {s : State} (h : s.MembersFit) (n : Nat) (waits : Bool) :
    (s.feederDies n waits).MembersFit := (h.kept (.moveFeeder s n .dead)).losePowers waits _

theorem State.MembersFit.feederReady {s : State} (h : s.MembersFit) (n : Nat) : (s.feederReady n).MembersFit :=
  forEach_inv (fun _ i ht => ht.examinePower i) _ _ ((h.kept (.moveFeeder s n .ready)).kept
    (.starts (State.OnlyStarts.considerGrant _ n) (State.considerGrant_rest _ n).1))

end Sys2Proof.Machine
end

section
/-! What each command makes of the members (R53, R54, R57, R95), and the statement. -/

namespace Sys2Proof.Machine

/-! ### Placings of fans that are no members -/

/-- A placing of a fan that is no member touches the fans and feeders alone, no other fan but to start it, and no demand
(R69, R109). -/
theorem State.placeFan_unlisted (s : State) (i : Nat) (hm : s.isMember i = false) :
    (s.placeFan i).line = s.line ∧ s.OthersOnlyStart i (s.placeFan i) ∧ s.MembersKept (s.placeFan i) := by
  have holding : ∀ dest fault, dest.isHolding = true → (s.enterHolding i dest fault).line = s.line ∧
      s.OthersOnlyStart i (s.enterHolding i dest fault) ∧ s.MembersKept (s.enterHolding i dest fault) := by
    intro dest fault hd
    have hheld := s.holdFan_held i dest fault hd
    rw [s.enterHolding_of_not_member i dest fault hm]
    refine ⟨hheld.line, hheld.others, ?_⟩
    have hkept := State.MembersKept.held (s := s) (i := i) (fault := fault) (rs := s.line.reports) hd (fun _ => id)
      (by simp [hm])
    exact { hkept with
      mode := congrArg LineController.mode hheld.line
      direction := by rw [hheld.line]
      duty := by rw [hheld.line]
      reports := fun j hj => by rw [hheld.line]; exact hj
      working := fun j hj hw => by rw [hheld.line]; exact hkept.working j hj hw }
  have hidle : s.OthersOnlyStart i (s.toIdle i) := by
    unfold State.toIdle
    dsimp only
    split
    · intro j hj
      have hstart := State.enterQueued_others (s.modifyFan i (fun f => { f with state := .idle })) i ‹_› ‹_› j hj
      rwa [State.fan_modifyFan_ne s i j _ hj] at hstart
    · exact s.modifyFan_others i _
  unfold State.placeFan State.tripFan
  simp only [State.loseFan_false]
  split
  · exact holding _ _ rfl
  split
  · exact holding _ _ rfl
  split
  · exact holding _ _ (by split <;> rfl)
  split
  · exact ⟨(s.toIdle_rest i).1, hidle, .toIdle s i⟩
  · exact ⟨rfl, s.modifyFan_others i _, .modifyFan s i _ (fun _ => rfl) fun _ _ => rfl⟩

/-! ### Everybody stopped -/

/-- After every fan has been stopped no fan holds a run demand (R19). -/
theorem State.stopEveryFan_none (s : State) (i : Nat) : (s.stopEveryFan.fan i).demand = .none := by
  rcases Nat.lt_or_ge i s.fanCount with hlt | hge
  · exact s.stopEveryFan_demand i hlt
  · rw [State.fan_none _ i ((State.FieldWork.stopEveryFan s).fanCount.trans_le hge)]
    rfl

/-- Nobody is a member and no fan holds a run demand. -/
def State.Unmanned (s : State) : Prop := s.line.duty = [] ∧ ∀ i, (s.fan i).demand = .none

theorem State.not_isMember_of_empty {s : State} (h : s.line.duty = []) (i : Nat) : s.isMember i = false := by
  simp [State.isMember, h]

/-- A line outside FIRE, with nobody a member, where only ROUTINE demands are held in NORMAL (R4, R95). -/
theorem State.MembersFit.of_empty {s : State} (hmode : s.line.mode ≠ .fire) (hscenario : s.line.scenario = none)
    (hduty : s.line.duty = [])
    (hroutine : s.line.mode = .normal → ∀ i d c, (s.fan i).demand = .run d c → c = .routine) : s.MembersFit where
  member sc hsc := by rw [hscenario] at hsc; cases hsc
  others h := absurd h hmode
  routine := hroutine
  fire := by simp [hmode, hscenario]
  empty _ := hduty

theorem State.MembersFit.no_scenario {s : State} (h : s.MembersFit) (hmode : s.line.mode ≠ .fire) :
    s.line.scenario = none := by
  cases hsc : s.line.scenario with
  | none => rfl
  | some sc => exact absurd (h.fire.mpr (by rw [hsc]; rfl)) hmode

theorem State.Unmanned.placeFan {s : State} (h : s.Unmanned) (i : Nat) : (s.placeFan i).Unmanned := by
  obtain ⟨hline, -, hkept⟩ := s.placeFan_unlisted i (State.not_isMember_of_empty h.1 i)
  exact ⟨by rw [hline, h.1], fun j => (hkept.demand j).trans (h.2 j)⟩

theorem State.Unmanned.losePowers (l : List Nat) {s : State} (h : s.Unmanned) : (s.losePowers false l).Unmanned := by
  induction l generalizing s with
  | nil => exact h
  | cons i is ih =>
    rw [State.losePowers_cons, Bool.and_false]
    refine ih (ite_keeps (P := State.Unmanned) ?_ h)
    rw [State.loseFan_false, s.enterHolding_of_not_member i _ _ (State.not_isMember_of_empty h.1 i)]
    exact ⟨by rw [State.holdFan_line, h.1], fun j => (s.holdFan_demand i .unpowered none rfl j).trans (h.2 j)⟩

/-- The fields of a good load leave the line unmanned (R121, R138). -/
theorem State.Unmanned.takeFieldRecords {s : State} (h : s.Unmanned) (m : LineImage) :
    (s.takeFieldRecords m).Unmanned := by
  have hresized : ∀ i, ((resizeFans s.fans m.fans.length).getD i Fan.afterReset).demand = .none := by
    intro i
    have hfans : ∀ f ∈ s.fans, f.demand = .none := (s.forall_fans_iff _).mpr fun i _ => h.2 i
    rw [List.getD_eq_getElem?_getD]
    cases hf : (resizeFans s.fans m.fans.length)[i]? with
    | none => rfl
    | some f =>
      rcases List.mem_append.mp (List.mem_of_getElem? hf) with hmem | hmem
      · exact hfans f (List.mem_of_mem_take hmem)
      · rw [List.eq_of_mem_replicate hmem]
        rfl
  refine forEach_inv (fun t n ht => State.Unmanned.losePowers _ ht) _ _ (forEach_inv (fun t i ht => ?_) _ _ ⟨h.1, hresized⟩)
  exact ite_keeps (P := State.Unmanned) (ht.placeFan i) ht

/-! ### Reload -/

/-- An accepted reload outside FIRE touches the line's mode, counter and boundary alone (R75, R122). -/
theorem State.acceptReload_line (s : State) (h : s.line.duty = []) : s.acceptReload.line = { s.line with
    mode := .loading, counting := false, windowCount := 0, boundaryDue := none, overtaken := false } := by
  let kept : State → Prop := fun t => t.line = s.line
  have hcleared : kept (forEach (fun s i => s.modifyFan i Fan.clearHistory) s.stopEveryFan (List.range s.fanCount)) :=
    forEach_inv (P := kept) (op := fun s i => s.modifyFan i Fan.clearHistory) (fun _ _ ht => ht) _ _ s.stopEveryFan_rest.1
  have hplaced : kept (forEach State.placeAtReload
      (forEach (fun s i => s.modifyFan i Fan.clearHistory) s.stopEveryFan (List.range s.fanCount))
      (List.range s.fanCount)) := by
    refine forEach_inv (P := kept) (fun t i ht => ite_keeps (P := kept) ?_ ht) _ _ hcleared
    refine (State.placeFan_unlisted (t.resumeStuckTimer i) i ?_).1.trans ht
    exact State.not_isMember_of_empty ((congrArg LineController.duty ht).trans h) i
  exact congrArg (fun l : LineController => { l with
    mode := .loading, counting := false, windowCount := 0, boundaryDue := none, overtaken := false }) hplaced

/-! ### ACTIVATE_FIRE -/

/-- Whether a fan joins as INITIAL rests on its record, the image and the number of fans (R13, R66). -/
theorem State.qualifiesInitial_congr {s t : State} (sc : Scenario) {i : Nat} (himage : t.image = s.image)
    (hcount : t.fanCount = s.fanCount) (hfan : t.fan i = s.fan i) :
    t.qualifiesInitial sc i = s.qualifiesInitial sc i := by
  obtain ⟨-, -, -, -, -, -, -, -, -, hchainage, -⟩ := State.statics_congr himage
  simp only [State.qualifiesInitial, State.fanExcluded, hcount, hchainage, hfan]

/-- A fan that joins as INITIAL is one of the fans, usable, and not QUEUED (R13). -/
theorem State.qualifies_running {s : State} {sc : Scenario} {i : Nat} (h : s.qualifiesInitial sc i = true) :
    i < s.fanCount ∧ (s.fan i).state.isWorking = true ∧ (s.fan i).state ≠ .queued ∧ (s.fan i).state ≠ .tripped := by
  simp only [State.qualifiesInitial, Bool.and_eq_true, decide_eq_true_eq] at h
  obtain ⟨⟨⟨-, hcount⟩, -⟩, hdir⟩ := h
  refine ⟨hcount, ?_⟩
  cases hs : (s.fan i).state <;> simp [hs, FanState.dir?] at hdir <;> simp [FanState.isWorking]

/-- Work that changes no other fan than `i`, but to start it, leaves who else joins as INITIAL. -/
theorem State.qualifiesInitial_others {s t : State} {sc : Scenario} {i j : Nat} (h : s.qualifiesInitial sc j = true)
    (himage : t.image = s.image) (hcount : t.fanCount = s.fanCount) (hothers : s.OthersOnlyStart i t) (hj : j ≠ i) :
    t.qualifiesInitial sc j = true := by
  have hfan : t.fan j = s.fan j := (hothers j hj).resolve_right fun hq => (State.qualifies_running h).2.2.1 hq.1
  rw [State.qualifiesInitial_congr sc himage hcount hfan, h]

/-- After the stopping of unwanted fans each holds NONE or will join as INITIAL (R12, R13). -/
theorem State.stopUnwanted_spec (s : State) (sc : Scenario) (i : Nat) :
    ((s.stopUnwanted sc).fan i).demand = .none ∨ (s.stopUnwanted sc).qualifiesInitial sc i = true := by
  have key : ∀ (l : List Nat) (u : State), i < u.fanCount →
      (i ∈ l ∨ (u.fan i).demand = .none ∨ u.qualifiesInitial sc i = true) →
      ((forEach (fun s i => if s.qualifiesInitial sc i then s else s.writeDemand i .none) u l).fan i).demand = .none ∨
      (forEach (fun s i => if s.qualifiesInitial sc i then s else s.writeDemand i .none) u l).qualifiesInitial sc i = true := by
    intro l
    induction l with
    | nil => exact fun u _ h => h.resolve_left (by simp)
    | cons j js ih =>
      intro u hi h
      by_cases hq : u.qualifiesInitial sc j = true
      · have hstay : forEach (fun s i => if s.qualifiesInitial sc i then s else s.writeDemand i .none) u (j :: js) =
            forEach (fun s i => if s.qualifiesInitial sc i then s else s.writeDemand i .none) u js :=
          congrArg (fun t => forEach _ t js) (if_pos hq)
        rw [hstay]
        refine ih u hi (h.elim (fun hm => ?_) .inr)
        exact (List.mem_cons.mp hm).elim (fun hij => .inr (.inr (hij ▸ hq))) .inl
      · have hstep : forEach (fun s i => if s.qualifiesInitial sc i then s else s.writeDemand i .none) u (j :: js) =
            forEach (fun s i => if s.qualifiesInitial sc i then s else s.writeDemand i .none) (u.writeDemand j .none) js :=
          congrArg (fun t => forEach _ t js) (if_neg hq)
        have hwork := State.FieldWork.writeDemand u j .none
        have hcount : (u.writeDemand j .none).fanCount = u.fanCount := hwork.fanCount
        rw [hstep]
        refine ih _ (hcount ▸ hi) ?_
        by_cases hij : i = j
        · subst hij
          exact .inr (.inl (u.writeDemand_demand i .none hi))
        · rcases h with hm | hn | hqi
          · exact .inl ((List.mem_cons.mp hm).resolve_left hij)
          · exact .inr (.inl ((u.writeDemand_demand_ne j i .none hij).trans hn))
          · exact .inr (.inr (State.qualifiesInitial_others hqi hwork.image hcount (u.writeDemand_others j .none) hij))
  rcases Nat.lt_or_ge i s.fanCount with hlt | hge
  · exact key _ s hlt (.inl (List.mem_range.mpr hlt))
  · refine .inl ?_
    have hcount : (s.stopUnwanted sc).fanCount = s.fanCount := (State.FieldWork.forEach (fun u j =>
      ite_keeps (P := State.FieldWork u) (State.FieldWork.refl u) (State.FieldWork.writeDemand u j .none)) s _).fanCount
    rw [State.fan_none _ i (hcount.trans_le hge)]
    rfl

/-- The INITIAL joins take every fan that would hold a run demand outside the duty set (R13, R66). -/
theorem State.MembersBut.joinInitial {s : State} {sc : Scenario}
    (h : s.MembersBut (fun i => s.qualifiesInitial sc i = true))
    (hd : s.line.scenario.map Scenario.direction = some sc.direction) : (s.joinInitial sc).MembersFit := by
  have key : ∀ (l : List Nat) (u : State), u.line.scenario.map Scenario.direction = some sc.direction →
      u.MembersBut (fun i => i ∈ l ∧ u.qualifiesInitial sc i = true) → (forEach (fun s i =>
        if s.qualifiesInitial sc i then s.joinMember sc.direction i .initial 0 else s) u l).MembersFit := by
    intro l
    induction l with
    | nil => exact fun u _ hu => hu.mono (by simp)
    | cons j js ih =>
      intro u hdu hu
      by_cases hq : u.qualifiesInitial sc j = true
      · obtain ⟨hj, hworking, hnot, -⟩ := State.qualifies_running hq
        have hwork := State.FieldWork.joinMember u sc.direction j .initial 0
        have hstep : forEach (fun s i => if s.qualifiesInitial sc i then s.joinMember sc.direction i .initial 0 else s) u
            (j :: js) = forEach (fun s i => if s.qualifiesInitial sc i then s.joinMember sc.direction i .initial 0 else s)
              (u.joinMember sc.direction j .initial 0) js := congrArg (fun t => forEach _ t js) (if_pos hq)
        rw [hstep]
        refine ih _ (hwork.direction.trans hdu) ((hu.joinMember .initial 0 hdu hj hworking).mono ?_)
        rintro i ⟨⟨hm, hqi⟩, hij⟩
        exact ⟨(List.mem_cons.mp hm).resolve_left hij,
          State.qualifiesInitial_others hqi hwork.image hwork.fanCount (State.writeDemand_others _ j _) hij⟩
      · have hstay : forEach (fun s i => if s.qualifiesInitial sc i then s.joinMember sc.direction i .initial 0 else s) u
            (j :: js) = forEach (fun s i => if s.qualifiesInitial sc i then s.joinMember sc.direction i .initial 0 else s)
              u js := congrArg (fun t => forEach _ t js) (if_neg hq)
        rw [hstay]
        refine ih u hdu (hu.mono ?_)
        rintro i ⟨hm, hqi⟩
        exact ⟨(List.mem_cons.mp hm).resolve_left fun hij => hq (hij ▸ hqi), hqi⟩
  refine key sc.preference s hd (h.mono fun i hqi => ⟨?_, hqi⟩)
  simp only [State.qualifiesInitial, Bool.and_eq_true] at hqi
  simpa using hqi.1.1.1

/-- The restarts at entry to FIRE, with nobody yet a member, touch neither the line nor who joins as INITIAL (R108). -/
theorem State.examineRestart_unlisted {s : State} (sc : Scenario) (i : Nat) (h : s.line.duty = []) :
    (s.examineRestart i).line = s.line ∧ s.MembersKept (s.examineRestart i) ∧
      ∀ j, s.qualifiesInitial sc j = true → (s.examineRestart i).qualifiesInitial sc j = true := by
  have hwork := State.LineWork.examineRestart s i
  unfold State.examineRestart at hwork ⊢
  split
  next hc =>
    rw [if_pos hc] at hwork
    have hrestart := State.MembersKept.modifyFan s i (fun f => { f with restartUsed := true }) (fun _ => rfl) fun _ => id
    obtain ⟨hline, hothers, hkept⟩ := State.placeFan_unlisted (s.modifyFan i (fun f => { f with restartUsed := true })) i
      (State.not_isMember_of_empty h i)
    refine ⟨hline, hrestart.trans hkept, fun j hq => ?_⟩
    have hj : j ≠ i := fun hji => (State.qualifies_running hq).2.2.2 (hji ▸ hc.2.1)
    refine State.qualifiesInitial_others hq hwork.image hwork.fanCount (fun k hk => ?_) hj
    have := hothers k hk
    rwa [State.fan_modifyFan_ne s i k _ hk] at this
  next => exact ⟨rfl, State.MembersKept.refl s, fun _ => id⟩

theorem State.purgeRoutine_line (s : State) : s.purgeRoutine.line = s.line := by
  let kept : State → Prop := fun t => t.line = s.line
  refine forEach_inv (P := kept) (fun t n ht => ?_) s _ rfl
  unfold State.purgeFeeder
  split
  · exact ht
  · exact forEach_inv (P := kept) (op := fun s i => s.modifyFan i Fan.unqueue) (fun _ _ hu => hu) t _ ht

theorem State.MembersKept.resolvePlan (s : State) : s.MembersKept s.resolvePlan := by
  unfold State.resolvePlan
  split
  · exact State.MembersKept.refl s
  · exact .modifyScenario s _ fun _ _ => rfl

theorem State.stopUnwanted_line (s : State) (sc : Scenario) : (s.stopUnwanted sc).line = s.line := by
  let kept : State → Prop := fun t => t.line = s.line
  exact forEach_inv (P := kept) (fun t i ht => ite_keeps (P := kept) ht ((t.writeDemand_rest i .none).1.trans ht)) s _ rfl

theorem State.withScenario_some {s : State} {sc : Scenario} {f : State → Scenario → State}
    (h : s.line.scenario = some sc) : s.withScenario f = f s sc := by rw [State.withScenario, h]

/-- An activation (R11 to R13). -/
theorem State.activate_membersFit (s : State) (n : Nat) (k : FireClass) (req : FireRequest) (d : Direction) :
    (s.activate n k req d).MembersFit := by
  set a := ((s.createScenario n k req d).purgeRoutine).resolvePlan with ha
  have hkept := State.MembersKept.resolvePlan (s.createScenario n k req d).purgeRoutine
  rw [← ha] at hkept
  have hline : (s.createScenario n k req d).purgeRoutine.line = (s.createScenario n k req d).line :=
    State.purgeRoutine_line _
  have hmode : a.line.mode = .fire := by rw [hkept.mode, hline]; rfl
  have hduty : a.line.duty = [] := by
    have := hkept.duty
    rw [hline] at this
    exact List.map_eq_nil_iff.mp this
  have hdirection : a.line.scenario.map Scenario.direction = some d := by rw [hkept.direction, hline]; rfl
  obtain ⟨sc, hsc, rfl⟩ := Option.map_eq_some_iff.mp hdirection
  set b := a.stopUnwanted sc with hb
  have hbline : b.line = a.line := a.stopUnwanted_line sc
  have hbfit : b.MembersBut (fun i => b.qualifiesInitial sc i = true) :=
    { member := fun _ _ i hm => by
        rw [State.not_isMember_of_empty (hbline ▸ hduty) i] at hm
        cases hm
      others := fun _ i _ => a.stopUnwanted_spec sc i
      routine := fun h => by rw [hbline, hmode] at h; cases h
      fire := by simp [hbline, hmode, hsc]
      empty := fun h => absurd (hbline ▸ hmode) h }
  let c := forEach State.examineRestart b (List.range b.fanCount)
  obtain ⟨hcline, hckept, hcquals⟩ : c.line = b.line ∧ b.MembersKept c ∧
      ∀ j, b.qualifiesInitial sc j = true → c.qualifiesInitial sc j = true := by
    refine forEach_inv (P := fun t => t.line = b.line ∧ b.MembersKept t ∧
      ∀ j, b.qualifiesInitial sc j = true → t.qualifiesInitial sc j = true) (fun t i ⟨htline, htkept, htquals⟩ => ?_)
      b _ ⟨rfl, State.MembersKept.refl b, fun _ => id⟩
    obtain ⟨hline, hkept, hquals⟩ := State.examineRestart_unlisted sc i ((congrArg LineController.duty htline).trans
      (hbline ▸ hduty))
    exact ⟨hline.trans htline, htkept.trans hkept, fun j hq => hquals j (htquals j hq)⟩
  have hcsc : c.line.scenario = some sc := by rw [hcline, hbline, hsc]
  have hjoined : (c.joinInitial sc).MembersFit :=
    ((hbfit.kept hckept).mono hcquals).joinInitial (by rw [hcsc]; rfl)
  have hactivate : s.activate n k req sc.direction = ((c.joinInitial sc).evaluate).raise .fireMode := by
    unfold State.activate
    dsimp only
    rw [← ha, State.withScenario_some hsc, ← hb, State.withScenario_some hcsc]
  rw [hactivate]
  exact hjoined.evaluate.kept (.blocks ⟨rfl, rfl, rfl, rfl, rfl, rfl, rfl⟩)

/-- The figures of an ACTIVATE_FIRE replaced, vm formed, the list resolved: no fan and no member is touched (R14). -/
theorem State.replaceFire_rest (s : State) (n : Nat) (k : FireClass) (req : FireRequest) (d : Direction) :
    (s.replaceFire n k req d).line.mode = s.line.mode ∧ (s.replaceFire n k req d).line.duty = s.line.duty ∧
      (s.replaceFire n k req d).line.reports = s.line.reports ∧ (s.replaceFire n k req d).fans = s.fans ∧
      (s.replaceFire n k req d).line.scenario.map Scenario.direction = s.line.scenario.map (fun _ => d) := by
  unfold State.replaceFire State.resolvePlan
  split
  all_goals
    refine ⟨rfl, rfl, rfl, rfl, ?_⟩
    cases hsc : s.line.scenario <;> simp [hsc, Scenario.withFire]

/-- An update (R14, R68). -/
theorem State.MembersFit.update {s : State} {sc : Scenario} (h : s.MembersFit) (n : Nat) (k : FireClass)
    (req : FireRequest) (hsc : s.line.scenario = some sc) : (s.update n k req sc.direction).MembersFit := by
  obtain ⟨hmode, hduty, hreports, hfans, hdirection⟩ := s.replaceFire_rest n k req sc.direction
  have hreplaced : (s.replaceFire n k req sc.direction).MembersFit := h.kept {
    mode := hmode
    direction := by rw [hdirection, hsc]; rfl
    duty := by rw [hduty]
    reports := fun i hi => hreports ▸ hi
    demand := fun i => by rw [State.fan_congr hfans]
    working := fun i _ hw => .inl (by rw [State.fan_congr hfans]; exact hw) }
  have hdropped : ((s.replaceFire n k req sc.direction).withScenario State.dropUnlisted).MembersFit := by
    unfold State.withScenario
    split
    · exact forEach_inv (fun t i ht => ht.removeMember (rs := t.line.reports) fun _ => .inr) _ _ hreplaced
    · exact hreplaced
  exact (hdropped.kept (.modifyScenario _ Scenario.resetTrim fun _ _ => rfl)).evaluate

/-- A redirection (R15, R66, R67). -/
theorem State.MembersFit.redirect {s : State} {sc : Scenario} (h : s.MembersFit) (n : Nat) (k : FireClass)
    (req : FireRequest) (d : Direction) (hsc : s.line.scenario = some sc) : (s.redirect n k req d).MembersFit := by
  obtain ⟨hmode, hduty, hreports, hfans, hdirection⟩ := s.replaceFire_rest n k req d
  have hfire : s.line.mode = .fire := h.fire.mpr (by rw [hsc]; rfl)
  set a := s.replaceFire n k req d with ha
  set b := forEach State.removeMember a (a.line.duty.map (fun x => x.fan)) with hb
  have hwork : State.FieldWork a b := State.FieldWork.forEach State.FieldWork.removeMember a _
  have hempty : b.line.duty = [] := by
    rw [hb, forEach_removeMember_duty, List.filter_eq_nil_iff]
    intro x hx
    simpa using ⟨x, hx, rfl⟩
  have hnone : ∀ i, (b.fan i).demand = .none := by
    have hothers : ∀ i, b.isMember i = false → (b.fan i).demand = .none := by
      refine forEach_inv (P := fun t => ∀ i, t.isMember i = false → (t.fan i).demand = .none) (fun t j ht i hm => ?_)
        a _ fun i hm => ?_
      · by_cases hij : i = j
        · subst hij
          rcases Nat.lt_or_ge i t.fanCount with hlt | hge
          · exact State.writeDemand_demand _ i .none hlt
          · rw [State.fan_none _ i ((State.FieldWork.removeMember t i).fanCount.trans_le hge)]
            rfl
        · refine (State.writeDemand_demand_ne _ j i .none hij).trans (ht i ?_)
          simpa [State.isMember_removeMember, hij] using hm
      · rw [State.fan_congr hfans]
        exact (h.others hfire i ((State.isMember_congr hduty.symm i).trans hm)).resolve_right id
    exact fun i => hothers i (State.not_isMember_of_empty hempty i)
  let c := b.modifyScenario Scenario.resetTrim
  have hdc : c.line.scenario.map Scenario.direction = some d := by
    have hkept := State.MembersKept.modifyScenario b Scenario.resetTrim fun _ _ => rfl
    rw [hkept.direction, hwork.direction, hdirection, hsc]
    rfl
  obtain ⟨now, hnow, rfl⟩ := Option.map_eq_some_iff.mp hdc
  have hcfit : c.MembersBut (fun i => c.qualifiesInitial now i = true) :=
    { member := fun _ _ i hm => by
        rw [State.not_isMember_of_empty (s := c) hempty i] at hm
        cases hm
      others := fun _ i _ => .inl (hnone i)
      routine := fun hnormal => by
        rw [show c.line.mode = .fire from (hwork.mode.trans hmode).trans hfire] at hnormal
        cases hnormal
      fire := by
        rw [hnow, show c.line.mode = .fire from (hwork.mode.trans hmode).trans hfire]
        simp
      empty := fun _ => hempty }
  have hredirect : s.redirect n k req now.direction = (c.joinInitial now).evaluate := by
    unfold State.redirect
    dsimp only
    rw [← ha, ← hb, State.withScenario_some hnow]
  rw [hredirect]
  exact (hcfit.joinInitial hdc).evaluate

/-! ### Changes of one fan -/

/-- A change of a fan that leaves its demand, and leaves it usable if it was. -/
theorem State.MembersFit.moved {s : State} (h : s.MembersFit) (i : Nat) (f : Fan → Fan)
    (hd : ∀ g, (f g).demand = g.demand := by intro; rfl)
    (hw : ∀ g, g.state.isWorking = true → (f g).state.isWorking = true := by intros; rfl) :
    (s.modifyFan i f).MembersFit := h.kept (.modifyFan s i f hd hw)

/-- A change of a fan that leaves its demand and its state, such as the recording of an input. -/
theorem State.MembersFit.recorded {s : State} (h : s.MembersFit) (i : Nat) (f : Fan → Fan)
    (hd : ∀ g, (f g).demand = g.demand := by intro; rfl) (hs : ∀ g, (f g).state = g.state := by intro; rfl) :
    (s.modifyFan i f).MembersFit := h.moved i f hd fun g hg => by rw [hs g]; exact hg

theorem State.MembersFit.nextFree {s : State} (h : s.MembersFit) : s.nextFree.MembersFit :=
  h.kept (.blocks ⟨rfl, rfl, rfl, rfl, rfl, rfl, rfl⟩)

/-! ### The other requests -/

/-- A STAND_DOWN (R17, R18). -/
theorem State.endFire_membersFit (s : State) : s.endFire.MembersFit := by
  let raised := if s.stopEveryFan.line.duty.isEmpty then s.stopEveryFan else s.stopEveryFan.raise .dutyChange
  have hraised : ∀ i, (raised.fan i).demand = .none := fun i =>
    ite_keeps (P := fun t : State => (t.fan i).demand = .none) (s.stopEveryFan_none i) (s.stopEveryFan_none i)
  have hnone : ∀ i, ((forEach (fun s i => s.modifyFan i (fun f => { f with restartUsed := false })) raised
      (List.range raised.fanCount)).fan i).demand = .none := by
    refine forEach_inv (P := fun t : State => ∀ i, (t.fan i).demand = .none) (fun t j ht i => ?_) _ _ hraised
    exact (t.modifyFan_demand j (fun f => { f with restartUsed := false }) (fun _ => rfl) i).trans (ht i)
  refine .of_empty (show LineMode.normal ≠ .fire by decide) rfl rfl fun _ i d c hd => ?_
  cases (hnone i).symm.trans hd

/-- A demand written outside FIRE: NONE or, to a fan of the line, a ROUTINE run demand (R95, R115). -/
theorem State.MembersFit.writeDemand {s : State} (h : s.MembersFit) (hmode : s.line.mode ≠ .fire) (i : Nat) (d : Demand)
    (hi : i < s.fanCount) (hd : ∀ x c, d = .run x c → c = .routine) : (s.writeDemand i d).MembersFit := by
  have hline := (s.writeDemand_rest i d).1
  refine .of_empty (by rwa [hline]) (by rw [hline, h.no_scenario hmode]) (by rw [hline, h.empty hmode])
    fun hnormal j x c hj => ?_
  by_cases hji : j = i
  · rw [hji, s.writeDemand_demand i d hi] at hj
    exact hd x c hj
  · rw [s.writeDemand_demand_ne i j d hji] at hj
    exact h.routine (hline ▸ hnormal) j x c hj

/-- A LOCKOUT (R116). -/
theorem State.MembersFit.lockFan {s : State} (h : s.MembersFit) (hmode : s.line.mode ≠ .fire) (i : Nat)
    (hi : i < s.fanCount) : (s.lockFan i).MembersFit := by
  have hlocked : (s.modifyFan i (fun f => { f with lockout := true })).MembersFit :=
    h.kept (.modifyFan s i _ (fun _ => rfl) fun _ => id)
  have hwritten := hlocked.writeDemand hmode i .none ((s.modifyFan_fanCount i _).symm ▸ hi) nofun
  exact ite_keeps (P := State.MembersFit) h (ite_keeps (P := State.MembersFit) (hwritten.enterHolding i _ _ rfl) hwritten)

/-- A RESTORE (R117). -/
theorem State.MembersFit.restoreFan {s : State} (h : s.MembersFit) (i : Nat) (hi : i < s.fanCount) :
    (s.restoreFan i).MembersFit := by
  have hduty : (s.line.duty.map (unexpireMember i)).map (fun x => x.fan) = s.line.duty.map (fun x => x.fan) := by
    rw [List.map_map]
    exact List.map_congr_left fun x _ => ite_keeps (P := fun y : Member => y.fan = x.fan) rfl rfl
  have hpardoned : (s.pardoned i).MembersFit :=
    (h.kept (.modifyFan s i Fan.pardoned (fun _ => rfl) fun _ => id)).kept (.setDuty _ _ hduty)
  by_cases hleaves : (s.fan i).leaves
  · rw [s.restoreFan_leaves i hi hleaves, State.readied, State.resumeStuckTimer_eq]
    exact (hpardoned.recorded i (fun f => f.resumed s.feedbackAllowance)).placeFan i
  · rw [s.restoreFan_stays i hi hleaves]
    exact hpardoned

/-- An accepted reload (R3, R122). -/
theorem State.MembersFit.acceptReload {s : State} (h : s.MembersFit) (hmode : s.line.mode ≠ .fire) :
    s.acceptReload.MembersFit := by
  have hline := s.acceptReload_line (h.empty hmode)
  exact .of_empty (by rw [hline]; exact (show LineMode.loading ≠ .fire by decide)) (by rw [hline]; exact h.no_scenario hmode) (by rw [hline]; exact h.empty hmode)
    fun hnormal => by rw [hline] at hnormal; cases hnormal

/-- The link fallback (R19, R20). -/
theorem State.MembersFit.linkFallback {s : State} (h : s.MembersFit) : s.linkFallback.MembersFit := by
  rcases s.linkFallback_cases with hsame | ⟨hmode, -, hstop⟩
  · rwa [hsame]
  · have hline := s.stopEveryFan_rest.1
    have hfire : s.line.mode ≠ .fire := by rw [hmode]; decide
    rw [hstop]
    refine .of_empty (by rwa [hline]) (by rw [hline, h.no_scenario hfire]) (by rw [hline, h.empty hfire])
      fun _ i d c hd => ?_
    cases (s.stopEveryFan_none i).symm.trans hd

/-! ### The control period -/

theorem State.MembersKept.countWindowEnd (s : State) : s.MembersKept s.countWindowEnd := by
  rw [s.countWindowEnd_rest]
  exact { State.MembersKept.refl s with }

theorem State.MembersKept.countOvertaken (s : State) : s.MembersKept s.countOvertaken :=
  State.MembersKept.trans (t := { s with line := { s.line with overtaken := false } }) { State.MembersKept.refl s with }
    (.countWindowEnd _)

/-- Steps 1 to 4 of a boundary (R77). -/
theorem State.MembersKept.beforeEvaluation (s : State) (vm : Option Int) (sc : Scenario)
    (hsc : s.line.scenario = some sc) : s.MembersKept (s.beforeEvaluation vm sc) := by
  obtain ⟨haged, -⟩ := s.exposeAll_spec sc
  have hdirection : (s.nextScenario vm sc).direction = sc.direction := by rw [s.nextScenario_eq vm sc]
  have hfan : ∀ i, (s.beforeEvaluation vm sc).fan i = (s.exposeAll sc).fan i := fun _ => rfl
  have heq := s.beforeEvaluation_eq vm sc
  refine ⟨by rw [heq], ?_, ?_, fun i hi => by rw [heq]; exact hi, fun i => by rw [hfan, haged.fan i],
    fun i _ hw => .inl (by rw [hfan, haged.fan i]; exact hw)⟩
  · rw [heq, hsc]
    exact congrArg some hdirection
  · rw [heq, List.map_map]
    exact List.map_congr_left fun x _ => ite_keeps (P := fun y : Member => y.fan = x.fan) rfl rfl

/-- A boundary (R76, R77, R89). -/
theorem State.MembersFit.boundary {s : State} (h : s.MembersFit) : Leads (execControlPeriodBoundary s) State.MembersFit := by
  unfold execControlPeriodBoundary
  dsimp only
  split
  next hmode =>
    split
    · exact leads_next (h.kept (.countOvertaken s))
    · obtain ⟨sc, hsc⟩ := Option.isSome_iff_exists.mp (h.fire.mp hmode)
      have hfire : ∀ {u : State} (vm : Option Int), u.MembersFit → u.line.scenario = some sc → (u.fireBoundary vm).MembersFit :=
        fun {u} vm hu husc => by
          rw [u.fireBoundary_eq vm sc husc]
          exact (hu.kept (.beforeEvaluation u vm sc husc)).evaluate
      exact leads_settle .membersFit (hfire _ (h.kept { State.MembersKept.refl s with }) hsc)
  next =>
    split
    · exact leads_next (h.kept (.countOvertaken s))
    · exact leads_next (h.kept { State.MembersKept.refl s with })
  next => exact leads_next h
  next => exact leads_next h

/-! ### Fan events -/

section
variable {s : State} (h : s.MembersFit) (i : Fin 64)
include h

theorem State.MembersFit.fbActive : Leads (execFbActive i s) State.MembersFit := by
  refine leads_atFan .membersFit h fun _ => ite_keeps (P := State.MembersFit) h ?_
  have hrecorded := h.recorded i (fun g => { g with fb := true })
  dsimp only
  split
  next d _ _ => exact (hrecorded.moved i (fun g => { g with state := .running d })).kept (.freeSlot _ _)
  · exact hrecorded
  · exact ite_keeps (P := State.MembersFit) hrecorded
      (hrecorded.recorded i (fun g => { g with stuckTimer := some s.feedbackAllowance }))

theorem State.MembersFit.fbInactive : Leads (execFbInactive i s) State.MembersFit := by
  refine leads_atFan .membersFit h fun _ => ite_keeps (P := State.MembersFit) ?_ h
  have hrecorded := h.recorded i (fun g => { g with fb := false, stuckTimer := none })
  dsimp only
  split
  · exact hrecorded.nextFree.tripFan _ _ _
  · exact hrecorded

theorem State.MembersFit.tripActive : Leads (execTripActive i s) State.MembersFit := by
  refine leads_atFan .membersFit h fun _ => ite_keeps (P := State.MembersFit) h ?_
  have hrecorded := h.recorded i (fun g => { g with trip := true })
  exact ite_keeps (P := State.MembersFit)
    (hrecorded.nextFree.tripFan _ _ _) hrecorded

theorem State.MembersFit.tripInactive : Leads (execTripInactive i s) State.MembersFit :=
  leads_atFan .membersFit h fun _ => ite_keeps (P := State.MembersFit)
    ((h.recorded i (fun g => { g with trip := false })).examineRestart _) h

theorem State.MembersFit.isoActive : Leads (execIsoActive i s) State.MembersFit := by
  refine leads_atFan .membersFit h fun _ => ite_keeps (P := State.MembersFit) h ?_
  have hrecorded := h.recorded i (fun g => { g with iso := true })
  exact ite_keeps (P := State.MembersFit)
    (hrecorded.nextFree.loseFan _ _ _ _ rfl) hrecorded

theorem State.MembersFit.isoInactive : Leads (execIsoInactive i s) State.MembersFit := by
  have hrecorded := h.recorded i (fun g => { g with iso := false })
  exact leads_atFan .membersFit h fun _ => ite_keeps (P := State.MembersFit)
    (ite_keeps (P := State.MembersFit) (hrecorded.placeFan _) hrecorded) h

theorem State.MembersFit.rampTimer : Leads (execRampTimerExpiry i s) State.MembersFit := by
  refine leads_atFan .membersFit h fun _ => ?_
  dsimp only
  split
  next d _ _ =>
    exact ite_keeps (P := State.MembersFit)
      ((h.moved i (fun g => { g with state := .running d })).kept (.freeSlot _ _))
      (h.moved i (fun g => { g with state := .starting d (.confirm s.feedbackAllowance) }))
  · exact h

theorem State.MembersFit.confirmTimer : Leads (execConfirmTimerExpiry i s) State.MembersFit := by
  refine leads_atFan .membersFit h fun _ => ?_
  split
  · exact ite_keeps (P := State.MembersFit) h
      (h.nextFree.tripFan _ _ _)
  · exact h

theorem State.MembersFit.coastTimer : Leads (execCoastTimerExpiry i s) State.MembersFit := by
  refine leads_atFan .membersFit h fun _ => ?_
  have hcounted := h.recorded i (fun g => { g with coastTimer := max g.coastTimer (s.coastTime i) })
  dsimp only
  split
  · exact hcounted.kept (.toIdle _ _)
  · exact hcounted.examineRestart _
  · exact hcounted.examinePower _
  · exact hcounted

theorem State.MembersFit.stuckTimer : Leads (execStuckRunningTimerExpiry i s) State.MembersFit :=
  leads_atFan .membersFit h fun _ => ite_keeps (P := State.MembersFit)
    (h.nextFree.loseFan _ _ _ _ rfl) h

end

/-! ### The step -/

theorem FanState.tick_isWorking (f : FanState) : f.tick.isWorking = f.isWorking := by cases f <;> rfl

/-- A fan one second later, of the fans one second later. -/
theorem State.secondPassed_fan (s : State) (i : Nat) : s.secondPassed.fan i =
    if i < s.fanCount then (s.fan i).tick else s.fan i := by
  unfold State.fanCount
  simp only [State.fan, State.secondPassed, List.getD_eq_getElem?_getD, List.getElem?_map]
  split
  next h => simp [h]
  next h => simp [List.getElem?_eq_none (Nat.not_lt.mp h)]

theorem State.MembersFit.idle {s : State} (h : s.MembersFit) : s.idle.MembersFit := by
  refine ite_keeps (P := State.MembersFit) (OfBlocks.membersFit.settle h.takeReport) <|
    ite_keeps (P := State.MembersFit) (h.kept (.blocks ⟨rfl, rfl, rfl, rfl, rfl, rfl, rfl⟩)) ?_
  have hpassed : s.MembersKept s.secondPassed := .of_line rfl
    (fun i => by rw [s.secondPassed_fan]; split <;> rfl)
    fun i hw => by
      rw [s.secondPassed_fan]
      split
      · exact ((s.fan i).state.tick_isWorking).trans hw
      · exact hw
  exact (h.kept hpassed).kept (.blocks ⟨rfl, rfl, rfl, rfl, rfl, rfl, rfl⟩)

/-- What a step needs of the state before it: the members fit, and while a load is in progress the line is stopped. -/
structure State.MembersReady (s : State) : Prop where
  fit : s.MembersFit
  loading : s.loader.load = .reading → s.line.mode ≠ .fire ∧ ∀ i, (s.fan i).demand = .none

theorem Meanings.members : Meanings State.MembersReady State.MembersFit where
  before s t hb h := ⟨h.fit.kept (.blocks hb), fun hload => by
    rw [hb.load] at hload
    obtain ⟨hmode, hnone⟩ := h.loading hload
    exact ⟨by rwa [hb.line], fun i => by rw [State.fan_congr hb.fans]; exact hnone i⟩⟩
  after := .membersFit
  weaken h := h.fit
  idle s h := h.fit.idle
  reset := .of_empty (by decide) rfl rfl nofun
  goodLoad s memory m dir health h hload _ := by
    obtain ⟨hmode, hnone⟩ := h.loading hload
    have hfields := State.Unmanned.takeFieldRecords ⟨h.fit.empty hmode, hnone⟩ m
    refine .of_empty (show LineMode.normal ≠ .fire by decide) rfl rfl fun _ i d c hd => ?_
    cases (hfields.2 i).symm.trans hd
  failedLoad s cause h hload := by
    obtain ⟨hmode, -⟩ := h.loading hload
    exact .of_empty (show LineMode.configFault ≠ .fire by decide) (h.fit.no_scenario hmode) (h.fit.empty hmode) nofun
  reload s h _ hmode := h.fit.acceptReload hmode
  activate s n k req d _ _ _ := s.activate_membersFit n k req d
  update s sc n k req h hsc := h.fit.update n k req hsc
  redirect s sc n k req d h hsc := h.fit.redirect n k req d hsc
  target s v h := h.fit.kept (.modifyScenario s _ fun _ _ => rfl)
  thrust s b h := h.fit.kept (.modifyScenario s _ fun _ _ => rfl)
  endFire s _ _ := s.endFire_membersFit
  stop s i h _ hmode hi := h.fit.writeDemand hmode i .none hi nofun
  run s i d h _ hmode hi _ := h.fit.writeDemand hmode i _ hi fun _ _ hd => by cases hd; rfl
  lockout s i h _ hmode hi := h.fit.lockFan hmode i hi
  restore s i h _ hi _ := h.fit.restoreFan i hi
  fallback s h := h.fit.linkFallback
  windowEnd s health h := by
    unfold execWindowEnd
    split
    · exact leads_next h.fit
    · refine leads_settle .membersFit (State.MembersFit.kept ?_ (.countWindowEnd _))
      exact h.fit.kept (.of_line rfl (fun _ => rfl) fun _ => id)
  boundary s h := h.fit.boundary
  pulse s n h := h.fit.kept (by unfold State.onChannel; split <;> exact .of_line rfl (fun _ => rfl) fun _ => id)
  dirChange s n h := h.fit.kept (by unfold State.onChannel; split <;> exact .of_line rfl (fun _ => rfl) fun _ => id)
  healthLost s n h := h.fit.kept (by unfold State.onChannel; split <;> exact .of_line rfl (fun _ => rfl) fun _ => id)
  fbActive s i h := h.fit.fbActive i
  fbInactive s i h := h.fit.fbInactive i
  tripActive s i h := h.fit.tripActive i
  tripInactive s i h := h.fit.tripInactive i
  isoActive s i h := h.fit.isoActive i
  isoInactive s i h := h.fit.isoInactive i
  rampTimer s i h := h.fit.rampTimer i
  confirmTimer s i h := h.fit.confirmTimer i
  coastTimer s i h := h.fit.coastTimer i
  stuckTimer s i h := h.fit.stuckTimer i
  feederDies s n waits h := h.fit.feederDies n waits
  moveFeeder s n dest h := h.fit.kept (.moveFeeder s n dest)
  feederReady s n h := h.fit.feederReady n

/-- Settles O14: a step keeps the members with what it needs of the line mode; a load in progress means LOADING, where
every demand is NONE. -/
theorem stepKeepsMembers : Obligations.StepKeepsMembers := by
  rintro s t ⟨hfire, hempty, -, hload, -⟩ - hqueues - hmembers hstep
  have hfit : s.MembersFit := ⟨hmembers.member, fun hmode i hm => .inl (hmembers.others hmode i hm), hmembers.routine,
    hfire, hempty⟩
  refine State.MembersFit.membersOk (Meanings.members.step ⟨hfit, fun hreading => ?_⟩ t hstep)
  have hmode := hload.mp hreading
  exact ⟨by rw [hmode]; decide, hqueues.stopped (by rw [hmode]; rfl)⟩

end Sys2Proof.Machine
end

section
/-! The ranges of the counts (R71, R92, R103, R142, R149): the operations that let no count rise, those that do, and the
statement. -/

namespace Sys2Proof.Machine

/-! ### Operations that let no count rise -/

/-- From `s` to `t` no coast timer and no exposure has risen; image and channels stand. -/
structure State.CountsCalm (s t : State) : Prop where
  image : t.image = s.image
  channels : t.air.channels = s.air.channels
  coast : ∀ i, (t.fan i).coastTimer ≤ (s.fan i).coastTimer
  exposure : ∀ i, (t.fan i).exposure ≤ (s.fan i).exposure

namespace State.CountsCalm

theorem refl (s : State) : s.CountsCalm s := ⟨rfl, rfl, fun _ => le_rfl, fun _ => le_rfl⟩

theorem trans {s t u : State} (a : s.CountsCalm t) (b : t.CountsCalm u) : s.CountsCalm u :=
  ⟨b.image.trans a.image, b.channels.trans a.channels, fun i => (b.coast i).trans (a.coast i),
    fun i => (b.exposure i).trans (a.exposure i)⟩

/-- The later part first: where the state between is read off it. -/
theorem after {s t u : State} (b : t.CountsCalm u) (a : s.CountsCalm t) : s.CountsCalm u := a.trans b

theorem along {op : State → Nat → State} (h : ∀ s i, State.CountsCalm s (op s i)) (s : State) (l : List Nat) :
    s.CountsCalm (forEach op s l) := forEach_rel refl (fun _ _ _ => trans) h s l

theorem of_fans {s t : State} (himage : t.image = s.image) (hchannels : t.air.channels = s.air.channels)
    (hfans : t.fans = s.fans) : s.CountsCalm t :=
  ⟨himage, hchannels, fun i => by rw [State.fan_congr hfans], fun i => by rw [State.fan_congr hfans]⟩

theorem raise (s : State) (k : EventKind) : s.CountsCalm (s.raise k) := of_fans rfl rfl rfl

theorem settle (s : State) : s.CountsCalm s.settle := of_fans rfl rfl rfl

theorem refreshFeederLevels (s : State) : s.CountsCalm s.refreshFeederLevels := of_fans rfl rfl rfl

theorem modifyScenario (s : State) (f : Scenario → Scenario) : s.CountsCalm (s.modifyScenario f) :=
  of_fans rfl rfl rfl

/-- Work of the frame touches no exposure; only the coast timers are left to look at. -/
theorem of_fieldWork {s t : State} (h : State.FieldWork s t)
    (hcoast : ∀ i, (t.fan i).coastTimer ≤ (s.fan i).coastTimer) : s.CountsCalm t :=
  ⟨h.image, by rw [h.air], hcoast, fun i => by
    obtain ⟨-, -, -, hexposure, -⟩ := h.history i
    rw [hexposure]⟩

theorem modifyFan (s : State) (i : Nat) (f : Fan → Fan)
    (hc : ∀ g, (f g).coastTimer ≤ g.coastTimer := by intro; exact le_rfl)
    (he : ∀ g, (f g).exposure ≤ g.exposure := by intro; exact le_rfl) : s.CountsCalm (s.modifyFan i f) :=
  ⟨rfl, rfl, State.fan_modifyFan_prop (P := fun g g' => g'.coastTimer ≤ g.coastTimer) s i f (fun _ => le_rfl) hc,
    State.fan_modifyFan_prop (P := fun g g' => g'.exposure ≤ g.exposure) s i f (fun _ => le_rfl) he⟩

/-- Grants leave every coast timer. -/
theorem starts {s t : State} (h : State.FieldWork s t) (hs : s.OnlyStarts t) : s.CountsCalm t :=
  of_fieldWork h fun i => by rcases hs.2 i with h | ⟨-, d, h⟩ <;> rw [h]; rfl

theorem freeSlot (s : State) (i : Nat) : s.CountsCalm (s.freeSlot i) :=
  starts (State.FieldWork.freeSlot s i) (State.OnlyStarts.freeSlot s i)

theorem enterQueued (s : State) (i : Nat) (d : Direction) (c : DemandClass) : s.CountsCalm (s.enterQueued i d c) :=
  (modifyFan s i (fun f => { f with state := .queued })).trans
    (starts (State.FieldWork.requestStart _ i d c) (State.OnlyStarts.requestStart _ i d c))

theorem toIdle (s : State) (i : Nat) : s.CountsCalm (s.toIdle i) := by
  refine (modifyFan s i (fun f => { f with state := .idle })).trans ?_
  unfold State.toIdle
  dsimp only
  split
  · exact enterQueued ..
  · exact refl _

theorem toCoasting (s : State) (i : Nat) : s.CountsCalm (s.toCoasting i) :=
  modifyFan s i (fun f => { f.runOff s.feedbackAllowance with state := .coasting }) fun _ => Nat.zero_le _

theorem writeDemand (s : State) (i : Nat) (d : Demand) : s.CountsCalm (s.writeDemand i d) := by
  have act : ∀ u : State, u.CountsCalm (u.actOnDemand i d) := by
    intro u
    have feeder : ∀ f, u.CountsCalm (u.onFeederOf i f) := fun f => by
      unfold State.onFeederOf
      split <;> exact of_fans rfl rfl rfl
    have abandon : u.CountsCalm (u.abandonStart i) := (toCoasting u i).trans (freeSlot _ i)
    unfold State.actOnDemand
    split
    · exact enterQueued ..
    · exact (feeder _).trans (modifyFan _ i (fun f => { f with state := .idle }))
    · exact feeder _
    · exact abandon
    · exact ite_keeps (refl u) abandon
    · exact toCoasting u i
    · exact ite_keeps (refl u) (toCoasting u i)
    · exact refl u
  exact ite_keeps (refl s) ((modifyFan s i (fun f => { f with demand := d })).trans (act _))

theorem dutyFrame : DutyFrame State.CountsCalm where
  refl := refl
  trans _ _ _ := trans
  setDuty _ _ := of_fans rfl rfl rfl
  join s d i r n := by
    exact (writeDemand _ i _).after (of_fans rfl rfl rfl)
  remove s i := by
    exact (writeDemand _ i _).after (of_fans rfl rfl rfl)

theorem evaluate (s : State) : s.CountsCalm s.evaluate :=
  dutyFrame.evaluate (fun _ _ => of_fans rfl rfl rfl) (fun _ => of_fans rfl rfl rfl) s

theorem reportLoss (s : State) (i : Nat) : s.CountsCalm (s.reportLoss i) :=
  ite_keeps ((dutyFrame.remove s i).trans (evaluate _)) (refl s)

theorem holdFan (s : State) (i : Nat) (dest : FanState) (fault : Option LastFault) (hd : dest.isHolding = true) :
    s.CountsCalm (s.holdFan i dest fault) := by
  have hheld := s.holdFan_held i dest fault hd
  refine (modifyFan s i (fun f => { f with lastFault := fault.getD f.lastFault })).trans
    (of_fieldWork hheld.work fun j => ?_)
  have hsame : ((s.modifyFan i (fun f => { f with lastFault := fault.getD f.lastFault })).fan j).coastTimer =
      (s.fan j).coastTimer := State.fan_modifyFan_prop (P := fun g g' => g'.coastTimer = g.coastTimer) s i
    (fun f => { f with lastFault := fault.getD f.lastFault }) (fun _ => rfl) (fun _ => rfl) j
  rw [hsame]
  by_cases hj : j = i
  · subst hj
    rcases Nat.lt_or_ge j s.fanCount with hlt | hge
    · rw [hheld.fan hlt]
      unfold Fan.heldIn
      dsimp only
      split <;> simp
    · rw [State.fan_none _ j ((s.holdFan_fanCount j dest fault).trans_le hge)]
      exact Nat.zero_le _
  · rcases hheld.others j hj with h | ⟨-, d, h⟩ <;> rw [h]
    rfl

theorem enterHolding (s : State) (i : Nat) (dest : FanState) (fault : Option LastFault) (hd : dest.isHolding = true) :
    s.CountsCalm (s.enterHolding i dest fault) := (holdFan s i dest fault hd).trans (reportLoss _ i)

theorem loseFan (s : State) (i : Nat) (dest : FanState) (fault : Option LastFault) (waits : Bool)
    (hd : dest.isHolding = true) : s.CountsCalm (s.loseFan i dest fault waits) :=
  (holdFan s i dest fault hd).trans (ite_keeps (of_fans rfl rfl rfl) (reportLoss _ i))

theorem tripFan (s : State) (i : Nat) (fault : LastFault) (waits : Bool) : s.CountsCalm (s.tripFan i fault waits) :=
  loseFan s i _ _ waits (by split <;> rfl)

theorem placeFan (s : State) (i : Nat) : s.CountsCalm (s.placeFan i) :=
  ite_keeps (enterHolding s i _ _ rfl) <| ite_keeps (enterHolding s i _ _ rfl) <| ite_keeps (tripFan s i _ _) <|
    ite_keeps (toIdle s i) (modifyFan s i (fun f => { f with state := .coasting }))

theorem examineRestart (s : State) (i : Nat) : s.CountsCalm (s.examineRestart i) :=
  ite_keeps ((modifyFan s i (fun f => { f with restartUsed := true })).trans (placeFan _ i)) (refl s)

theorem examinePower (s : State) (i : Nat) : s.CountsCalm (s.examinePower i) := ite_keeps (placeFan s i) (refl s)

theorem losePowers (waits : Bool) (l : List Nat) (s : State) : s.CountsCalm (s.losePowers waits l) := by
  induction l generalizing s with
  | nil => exact refl s
  | cons i is ih => exact (ite_keeps (P := s.CountsCalm) (loseFan s i _ _ _ rfl) (refl s)).trans (ih _)

theorem feederReady (s : State) (n : Nat) : s.CountsCalm (s.feederReady n) := by
  have hgranted : (s.moveFeeder n .ready).CountsCalm ((s.moveFeeder n .ready).considerGrant n) :=
    starts (State.FieldWork.considerGrant _ n) (State.OnlyStarts.considerGrant _ n)
  exact (along examinePower _ _).after (hgranted.after (of_fans rfl rfl rfl))

theorem stopEveryFan (s : State) : s.CountsCalm s.stopEveryFan :=
  (along (fun u i => ite_keeps (writeDemand u i .none) (refl u)) s _).trans
    (along (fun u i => writeDemand u i .none) _ _)

theorem resolvePlan (s : State) : s.CountsCalm s.resolvePlan := by
  unfold State.resolvePlan
  split <;> exact of_fans rfl rfl rfl

theorem withScenario (s : State) (f : State → Scenario → State) (h : ∀ sc, s.CountsCalm (f s sc)) :
    s.CountsCalm (s.withScenario f) := by
  unfold State.withScenario
  split
  · exact h _
  · exact refl s

theorem joinInitial (s : State) (sc : Scenario) : s.CountsCalm (s.joinInitial sc) :=
  along (fun u i => ite_keeps (dutyFrame.join u _ i _ _) (refl u)) s _

theorem purgeRoutine (s : State) : s.CountsCalm s.purgeRoutine := by
  refine along (fun u n => ?_) s _
  unfold State.purgeFeeder
  split
  · exact refl u
  next f _ =>
    refine (along (op := fun s i => s.modifyFan i Fan.unqueue) (fun v i => modifyFan v i Fan.unqueue ?_ ?_)
      u (f.routine.map (fun e => e.fan))).trans (of_fans rfl rfl rfl)
    all_goals
      intro g
      unfold Fan.unqueue
      split <;> exact le_rfl

theorem activate (s : State) (n : Nat) (k : FireClass) (req : FireRequest) (d : Direction) :
    s.CountsCalm (s.activate n k req d) := by
  have hresolved := ((of_fans rfl rfl rfl : s.CountsCalm (s.createScenario n k req d)).trans (purgeRoutine _)).trans
    (resolvePlan _)
  have hstopped := hresolved.trans (withScenario _ State.stopUnwanted fun sc =>
    along (fun u i => ite_keeps (refl u) (writeDemand u i .none)) _ _)
  exact (raise _ _).after <| (evaluate _).after <|
    (withScenario _ State.joinInitial fun sc => joinInitial _ sc).after ((along examineRestart _ _).after hstopped)

theorem replaceFire (s : State) (n : Nat) (k : FireClass) (req : FireRequest) (d : Direction) :
    s.CountsCalm (s.replaceFire n k req d) := (resolvePlan _).after (of_fans rfl rfl rfl)

theorem update (s : State) (n : Nat) (k : FireClass) (req : FireRequest) (d : Direction) :
    s.CountsCalm (s.update n k req d) := by
  have hdropped := (replaceFire s n k req d).trans (withScenario _ State.dropUnlisted fun sc =>
    along dutyFrame.remove _ _)
  exact (evaluate _).after (CountsCalm.trans hdropped (modifyScenario _ _))

theorem redirect (s : State) (n : Nat) (k : FireClass) (req : FireRequest) (d : Direction) :
    s.CountsCalm (s.redirect n k req d) :=
  (evaluate _).after <| (withScenario _ State.joinInitial fun sc => joinInitial _ sc).after <|
    (modifyScenario _ _).after <| (along dutyFrame.remove _ _).after (replaceFire s n k req d)

theorem endFire (s : State) : s.CountsCalm s.endFire := by
  set u := if s.stopEveryFan.line.duty.isEmpty then s.stopEveryFan else s.stopEveryFan.raise .dutyChange
  set t := forEach (fun s i => s.modifyFan i (fun f => { f with restartUsed := false })) u (List.range u.fanCount)
  have hraised : s.CountsCalm u := (stopEveryFan s).trans (ite_keeps (refl _) (raise _ _))
  have hreset : s.CountsCalm t :=
    hraised.trans (along (fun u i => modifyFan u i (fun f => { f with restartUsed := false })) _ _)
  have hended : t.CountsCalm s.endFire := of_fans rfl rfl rfl
  exact hreset.trans hended

theorem lockFan (s : State) (i : Nat) : s.CountsCalm (s.lockFan i) := by
  have hwritten : s.CountsCalm ((s.modifyFan i (fun f => { f with lockout := true })).writeDemand i .none) :=
    (modifyFan s i (fun f => { f with lockout := true })).trans (writeDemand _ i .none)
  exact ite_keeps (refl s) (ite_keeps (hwritten.trans (enterHolding _ i _ _ rfl)) hwritten)

theorem resumeStuckTimer (s : State) (i : Nat) : s.CountsCalm (s.resumeStuckTimer i) := by
  rw [State.resumeStuckTimer_eq]
  exact modifyFan s i _

theorem restoreFan (s : State) (i : Nat) : s.CountsCalm (s.restoreFan i) := by
  have hpardoned : s.CountsCalm (s.pardoned i) :=
    (modifyFan s i Fan.pardoned (fun _ => le_rfl) fun _ => Nat.zero_le _).trans (of_fans rfl rfl rfl)
  exact ite_keeps ((hpardoned.trans (resumeStuckTimer _ i)).trans (placeFan _ i)) <|
    ite_keeps (hpardoned.trans (placeFan _ i)) hpardoned

end State.CountsCalm

/-! ### The ranges -/

/-- The ranges of the fans' counts, where `counts` holds, and of the channels' counts, where `air` holds. -/
structure State.RangesOk (counts air : Prop) (s : State) : Prop where
  fans : counts → s.CountsOk
  channels : air → s.AirOk

theorem State.countsOk_iff (s : State) : (∀ f ∈ s.fans, f.CountsOk) ↔ ∀ i, (s.fan i).CountsOk := by
  rw [s.forall_fans_iff]
  refine ⟨fun h i => ?_, fun h i _ => h i⟩
  rcases Nat.lt_or_ge i s.fanCount with hlt | hge
  · exact h i hlt
  · rw [s.fan_none i hge]
    exact ⟨Nat.zero_le _, Nat.zero_le _⟩

section
variable {counts air : Prop} {s t : State} (h : s.RangesOk counts air)
include h

theorem State.RangesOk.calm (hc : s.CountsCalm t) : t.RangesOk counts air where
  fans hcounts := by
    obtain ⟨hcoast, hfans⟩ := h.fans hcounts
    refine ⟨fun m hm => hcoast m (hc.image ▸ hm), t.countsOk_iff.mpr fun i => ?_⟩
    obtain ⟨h1, h2⟩ := s.countsOk_iff.mp hfans i
    exact ⟨(hc.coast i).trans h1, (hc.exposure i).trans h2⟩
  channels hair := by
    unfold State.AirOk
    rw [hc.channels]
    exact h.channels hair

theorem State.RangesOk.onChannel (n : Nat) (f : Channel → Channel) (hf : ∀ c : Channel, c.Ok → (f c).Ok) :
    (s.onChannel n f).RangesOk counts air := by
  unfold State.onChannel
  split
  · refine ⟨h.fans, fun hair c hc => ?_⟩
    obtain ⟨k, hk⟩ := List.getElem?_of_mem hc
    rw [List.getElem?_modify] at hk
    obtain ⟨c', hc', rfl⟩ := Option.map_eq_some_iff.mp hk
    have hok := h.channels hair c' (List.mem_of_getElem? hc')
    split
    · exact hf c' hok
    · exact hok
  · exact h

end

/-! ### Operations that raise a count -/

theorem State.coastTime_le {s : State} (h : s.CoastTimesOk) (i : Nat) : s.coastTime i ≤ 600 := by
  unfold State.coastTime
  split
  next f hf =>
    obtain ⟨m, hm, hf⟩ := Option.bind_eq_some_iff.mp hf
    exact h m hm f (List.mem_of_getElem? hf)
  next => exact le_rfl

/-- A field of a record that lies in its ranges. -/
theorem fieldAt_le {spec : List FieldSpec} {vals : List Nat} {n : Nat} {f : FieldSpec} (h : inRange spec vals = true)
    (hf : spec[n]? = some f) : fieldAt vals n ≤ f.2.2 := by
  unfold fieldAt
  rw [List.getD_eq_getElem?_getD]
  cases hv : vals[n]? with
  | none => exact Nat.zero_le _
  | some v =>
    have hzip : (spec.zip vals)[n]? = some (f, v) := List.getElem?_zip_eq_some.mpr ⟨hf, hv⟩
    have := List.all_eq_true.mp h _ (List.mem_of_getElem? hzip)
    simp only [Bool.and_eq_true, decide_eq_true_eq] at this
    exact this.2

/-- The coast times of an image that has passed the loader's checks (R91, R180). -/
theorem loadImage_coastTime {memory : List Byte} {m : LineImage} (h : loadImage memory = .ok m) :
    ∀ f ∈ m.fans, f.coastTime ≤ 600 := by
  unfold loadImage at h
  split at h
  · cases h
  next raw before _ =>
    split at h
    · cases h
    split at h
    · cases h
    next hranges =>
      split at h
      · cases h
      cases h
      intro f hf
      obtain ⟨v, hv, rfl⟩ := List.mem_map.mp hf
      have hrange : inRange fanFields v = true := by
        simp only [Bool.not_eq_false, RawImage.rangesOk, Bool.and_eq_true, List.all_eq_true] at hranges
        exact hranges.1.1.2 v hv
      exact fieldAt_le hrange (n := 7) rfl

theorem pushSample_length {ring : List Sample} (x : Sample) (h : ring.length ≤ 4) : (pushSample ring x).length ≤ 4 := by
  unfold pushSample
  split
  · simp; omega
  · simp; omega

section
variable {counts air : Prop} {s : State} (h : s.RangesOk counts air)
include h

theorem State.RangesOk.secondPassed : s.secondPassed.RangesOk counts air where
  fans hcounts := by
    obtain ⟨hcoast, hfans⟩ := h.fans hcounts
    refine ⟨hcoast, s.secondPassed.countsOk_iff.mpr fun i => ?_⟩
    have hi := s.countsOk_iff.mp hfans i
    rw [s.secondPassed_fan]
    split
    · exact ⟨min_le_left _ _, hi.2⟩
    · exact hi
  channels := h.channels

theorem State.RangesOk.idle : s.idle.RangesOk counts air := by
  have htaken : s.CountsCalm s.takeReport.settle := by
    unfold State.takeReport
    split
    next i rest _ =>
      exact (State.CountsCalm.settle _).after ((State.CountsCalm.reportLoss _ i).after (.of_fans rfl rfl rfl))
    · exact .of_fans rfl rfl rfl
  exact ite_keeps (P := State.RangesOk counts air) (h.calm htaken) <|
    ite_keeps (P := State.RangesOk counts air) (h.calm (.of_fans rfl rfl rfl))
      (h.secondPassed.calm (.of_fans rfl rfl rfl))

/-- A good load: coast times within the loader's range, and fresh channels (R91, R157, R180). -/
theorem State.RangesOk.goodLoad {memory : List Byte} {m : LineImage} (dir health : BitVec 16)
    (hm : loadImage memory = .ok m) : (s.goodLoad m dir health).RangesOk counts air := by
  have hresized : ∀ {u : State}, u.image = some m → u.fans = resizeFans s.fans m.fans.length → counts → u.CountsOk := by
    intro u himage hfans hcounts
    refine ⟨fun n hn => ?_, fun f hf => ?_⟩
    · cases himage.symm.trans hn
      exact loadImage_coastTime hm
    · rw [hfans] at hf
      rcases List.mem_append.mp hf with hf | hf
      · exact (h.fans hcounts).2 f (List.mem_of_mem_take hf)
      · rw [List.eq_of_mem_replicate hf]
        exact ⟨Nat.zero_le _, Nat.zero_le _⟩
  set u : State := { s with
    image := some m
    feeders := m.feeders.zipIdx.map (fun p => Feeder.atLoad (s.inputs p.2) p.1.settleTime)
    fans := resizeFans s.fans m.fans.length }
  have hu : u.RangesOk counts False := ⟨hresized rfl rfl, nofun⟩
  have hcalm : u.CountsCalm (s.takeFieldRecords m) := by
    refine State.CountsCalm.after (.along (op := fun s n => s.reportDead n false) (fun t n => .losePowers false _ t) _ _) <|
      State.CountsCalm.after (.along (op := State.placeAtLoad) (fun t i => ?_) _ _) (.refreshFeederLevels u)
    exact ite_keeps (.placeFan t i) (.refl t)
  refine ⟨(hu.calm hcalm).fans, fun _ c hc => ?_⟩
  obtain ⟨p, -, rfl⟩ := List.mem_map.mp hc
  exact ⟨Nat.zero_le _, Nat.zero_le _⟩

theorem State.RangesOk.acceptReload : s.acceptReload.RangesOk counts air := by
  set u := forEach State.placeAtReload (forEach (fun s i => s.modifyFan i Fan.clearHistory) s.stopEveryFan
    (List.range s.fanCount)) (List.range s.fanCount)
  have hcalm : s.CountsCalm u :=
    ((State.CountsCalm.stopEveryFan s).trans (.along (op := fun s i => s.modifyFan i Fan.clearHistory)
      (fun t i => .modifyFan t i Fan.clearHistory (fun _ => le_rfl) fun _ => Nat.zero_le _) _ _)).trans
      (.along (fun t i => ite_keeps ((State.CountsCalm.resumeStuckTimer t i).trans (.placeFan _ i)) (.refl t)) _ _)
  refine ⟨(h.calm hcalm).fans, fun _ c hc => ?_⟩
  obtain ⟨c', -, rfl⟩ := List.mem_map.mp hc
  exact ⟨Nat.zero_le _, Nat.zero_le _⟩

theorem State.RangesOk.windowEnd (health : BitVec 16) : Leads (execWindowEnd health s) (State.RangesOk counts air) := by
  unfold execWindowEnd
  split
  · exact leads_next h
  · have hchannels : air → (((s.takeSnapshot.publishVm).refreshAirflowFault).beginWindows health).AirOk := by
      intro hair c hc
      obtain ⟨p, hp, rfl⟩ := List.mem_map.mp hc
      obtain ⟨c', hc', hsnapshot⟩ := List.mem_map.mp (List.fst_mem_of_mem_zipIdx hp)
      have hok := h.channels hair c'.1 (List.fst_mem_of_mem_zipIdx hc')
      refine ⟨Nat.zero_le _, ?_⟩
      change p.1.ring.length ≤ 4
      rw [← hsnapshot]
      split
      · exact pushSample_length _ hok.2
      · exact hok.2
    have hbegun : State.RangesOk counts air (((s.takeSnapshot.publishVm).refreshAirflowFault).beginWindows health) :=
      ⟨h.fans, hchannels⟩
    refine leads_next (hbegun.calm ?_)
    rw [State.countWindowEnd_rest]
    exact .of_fans rfl rfl rfl

/-- Step 1 of a boundary: the exposures saturate (R71). -/
theorem State.RangesOk.exposeAll (sc : Scenario) : (s.exposeAll sc).RangesOk counts air := by
  obtain ⟨haged, hexposed⟩ := s.exposeAll_spec sc
  have hrest := haged.rest
  refine ⟨fun hcounts => ?_, fun hair c hc => h.channels hair c (by rw [hrest] at hc; exact hc)⟩
  obtain ⟨hcoast, hfans⟩ := h.fans hcounts
  refine ⟨fun m hm => hcoast m (by rw [hrest] at hm; exact hm), (State.forall_fans_iff _ _).mpr fun i hi => ?_⟩
  have hi : i < s.fanCount := haged.fanCount ▸ hi
  obtain ⟨h1, h2⟩ := s.countsOk_iff.mp hfans i
  rw [hexposed i hi, State.exposedFan]
  split
  · exact ⟨h1, min_le_left _ _⟩
  · exact ⟨h1, h2⟩

theorem State.RangesOk.fireBoundary (vm : Option Int) : (s.fireBoundary vm).RangesOk counts air := by
  have hexposed : (s.withScenario State.exposeAll).RangesOk counts air := by
    unfold State.withScenario
    split
    · exact h.exposeAll _
    · exact h
  refine hexposed.calm <| State.CountsCalm.after (.evaluate _) <| State.CountsCalm.after (.modifyScenario _ _) <|
    State.CountsCalm.after (.withScenario _ (fun s sc => s.takeTrim vm sc) fun sc => ?_) (.modifyScenario _ _)
  unfold State.takeTrim
  split
  · split <;> exact .of_fans rfl rfl rfl
  · exact .refl _

theorem State.RangesOk.boundary : Leads (execControlPeriodBoundary s) (State.RangesOk counts air) := by
  have hovertaken : s.CountsCalm s.countOvertaken := by
    unfold State.countOvertaken
    rw [State.countWindowEnd_rest]
    exact .of_fans rfl rfl rfl
  unfold execControlPeriodBoundary
  dsimp only
  split
  · split
    · exact leads_next (h.calm hovertaken)
    · refine leads_next (State.RangesOk.calm (State.RangesOk.fireBoundary ?_ _) (.of_fans rfl rfl rfl))
      exact h.calm (.of_fans rfl rfl rfl)
  · split
    · exact leads_next (h.calm hovertaken)
    · exact leads_next (h.calm (.of_fans rfl rfl rfl))
  · exact leads_next h
  · exact leads_next h

end

theorem OfBlocks.rangesOk (counts air : Prop) : OfBlocks (State.RangesOk counts air) :=
  fun _ _ hb h => h.calm (.of_fans hb.image (by rw [hb.air]) hb.fans)

/-! ### Fan events -/

section
variable {counts air : Prop} {s : State} (h : s.RangesOk counts air) (i : Fin 64)
include h

/-- A fan event that lets no count rise. -/
theorem State.RangesOk.atFan {act : Fan → State → State} (hact : s.CountsCalm (act (s.fan i) s)) :
    Leads (.next (s.atFan i act)) (State.RangesOk counts air) :=
  leads_atFan (.rangesOk counts air) h fun _ => h.calm hact

theorem State.RangesOk.fbActive : Leads (execFbActive i s) (State.RangesOk counts air) := by
  refine h.atFan i (ite_keeps (.refl s) ?_)
  have hrecorded := State.CountsCalm.modifyFan s i (fun g => { g with fb := true })
  dsimp only
  split
  · exact (hrecorded.trans (.modifyFan _ _ _)).trans (.freeSlot _ _)
  · exact hrecorded
  · exact ite_keeps hrecorded (hrecorded.trans (.modifyFan _ _ _))

theorem State.RangesOk.fbInactive : Leads (execFbInactive i s) (State.RangesOk counts air) := by
  refine h.atFan i (ite_keeps ?_ (.refl s))
  have hrecorded := State.CountsCalm.modifyFan s i (fun g => { g with fb := false, stuckTimer := none })
  dsimp only
  split
  · exact State.CountsCalm.after (.tripFan _ i _ _) (hrecorded.trans (.of_fans rfl rfl rfl))
  · exact hrecorded

theorem State.RangesOk.tripActive : Leads (execTripActive i s) (State.RangesOk counts air) := by
  have hrecorded := State.CountsCalm.modifyFan s i (fun g => { g with trip := true })
  exact h.atFan i <| ite_keeps (.refl s) <|
    ite_keeps (State.CountsCalm.after (.tripFan _ i _ _) (hrecorded.trans (.of_fans rfl rfl rfl))) hrecorded

theorem State.RangesOk.tripInactive : Leads (execTripInactive i s) (State.RangesOk counts air) := by
  have hrecorded := State.CountsCalm.modifyFan s i (fun g => { g with trip := false })
  exact h.atFan i <| ite_keeps (hrecorded.trans (.examineRestart _ i)) (.refl s)

theorem State.RangesOk.isoActive : Leads (execIsoActive i s) (State.RangesOk counts air) := by
  have hrecorded := State.CountsCalm.modifyFan s i (fun g => { g with iso := true })
  exact h.atFan i <| ite_keeps (.refl s) <|
    ite_keeps (State.CountsCalm.after (.loseFan _ i .isolated _ _ rfl) (hrecorded.trans (.of_fans rfl rfl rfl)))
      hrecorded

theorem State.RangesOk.isoInactive : Leads (execIsoInactive i s) (State.RangesOk counts air) := by
  have hrecorded := State.CountsCalm.modifyFan s i (fun g => { g with iso := false })
  exact h.atFan i <| ite_keeps (ite_keeps (hrecorded.trans (.placeFan _ i)) hrecorded) (.refl s)

theorem State.RangesOk.rampTimer : Leads (execRampTimerExpiry i s) (State.RangesOk counts air) := by
  refine h.atFan i ?_
  split
  · exact ite_keeps (State.CountsCalm.after (.freeSlot _ i) (.modifyFan _ _ _)) (.modifyFan _ _ _)
  · exact .refl s

theorem State.RangesOk.confirmTimer : Leads (execConfirmTimerExpiry i s) (State.RangesOk counts air) := by
  refine h.atFan i ?_
  split
  · exact ite_keeps (.refl s) (State.CountsCalm.after (.tripFan _ i _ _) (.of_fans rfl rfl rfl))
  · exact .refl s

theorem State.RangesOk.stuckTimer : Leads (execStuckRunningTimerExpiry i s) (State.RangesOk counts air) :=
  h.atFan i <|
    ite_keeps (State.CountsCalm.after (.loseFan _ i .failed _ _ rfl) (.of_fans rfl rfl rfl)) (.refl s)

/-- The count of an ended coast stands at its coast time, which the image bounds (R91, R103). -/
theorem State.RangesOk.coastTimer : Leads (execCoastTimerExpiry i s) (State.RangesOk counts air) := by
  refine leads_atFan (.rangesOk counts air) h fun _ => ?_
  set u := s.modifyFan i (fun g => { g with coastTimer := max g.coastTimer (s.coastTime i) })
  have hu : u.RangesOk counts air := by
    refine ⟨fun hcounts => ?_, h.channels⟩
    obtain ⟨hcoast, hfans⟩ := h.fans hcounts
    refine ⟨hcoast, u.countsOk_iff.mpr fun j => State.fan_modifyFan_prop (P := fun g g' => g.CountsOk → g'.CountsOk) s i
      _ (fun _ hg => hg) (fun g hg => ?_) j (s.countsOk_iff.mp hfans j)⟩
    exact ⟨max_le hg.1 (State.coastTime_le hcoast i), hg.2⟩
  dsimp only
  split
  · exact hu.calm (.toIdle u i)
  · exact hu.calm (.examineRestart u i)
  · exact hu.calm (.examinePower u i)
  · exact hu

end

/-! ### Every command -/

theorem State.RangesOk.meanings (counts air : Prop) :
    Meanings (State.RangesOk counts air) (State.RangesOk counts air) where
  before := .rangesOk counts air
  after := .rangesOk counts air
  weaken h := h
  idle _ h := h.idle
  reset := by
    refine ⟨fun _ => ⟨nofun, fun f hf => ?_⟩, fun _ => nofun⟩
    rw [List.eq_of_mem_replicate hf]
    exact ⟨Nat.zero_le _, Nat.zero_le _⟩
  goodLoad _ _ _ dir health h _ hm := h.goodLoad dir health hm
  failedLoad _ _ h _ := h.calm (.of_fans rfl rfl rfl)
  reload _ h _ _ := h.acceptReload
  activate s n k req d h _ _ := h.calm (.activate s n k req d)
  update s sc n k req h _ := h.calm (.update s n k req sc.direction)
  redirect s _ n k req d h _ := h.calm (.redirect s n k req d)
  target s _ h := h.calm (.modifyScenario s _)
  thrust s _ h := h.calm (.modifyScenario s _)
  endFire s h _ := h.calm (.endFire s)
  stop s i h _ _ _ := h.calm (.writeDemand s i .none)
  run s i d h _ _ _ _ := h.calm (.writeDemand s i _)
  lockout s i h _ _ _ := h.calm (.lockFan s i)
  restore s i h _ _ _ := h.calm (.restoreFan s i)
  fallback s h := by
    refine h.calm ?_
    unfold State.linkFallback
    split
    · split
      · exact .refl s
      · exact .stopEveryFan s
    · exact .refl s
  windowEnd _ health h := h.windowEnd health
  boundary _ h := h.boundary
  pulse _ n h := h.onChannel n Channel.countPulse fun _ hc => ⟨min_le_left _ _, hc.2⟩
  dirChange _ n h := h.onChannel n Channel.changeDir fun _ hc => hc
  healthLost _ n h := h.onChannel n Channel.loseHealth fun _ hc => hc
  fbActive _ i h := h.fbActive i
  fbInactive _ i h := h.fbInactive i
  tripActive _ i h := h.tripActive i
  tripInactive _ i h := h.tripInactive i
  isoActive _ i h := h.isoActive i
  isoInactive _ i h := h.isoInactive i
  rampTimer _ i h := h.rampTimer i
  confirmTimer _ i h := h.confirmTimer i
  coastTimer _ i h := h.coastTimer i
  stuckTimer _ i h := h.stuckTimer i
  feederDies s n waits h := h.calm (State.CountsCalm.after (.losePowers waits _ _) (.of_fans rfl rfl rfl))
  moveFeeder s n dest h := h.calm (.of_fans rfl rfl rfl)
  feederReady s n h := h.calm (.feederReady s n)

/-- Settles O6: every operation lets no count rise, or raises one that saturates (R71, R145), that the image bounds
(R103) or that counts a ring of four (R149). -/
theorem stepKeepsCounts : Obligations.StepKeepsCounts := by
  intro s t hstep
  exact ⟨fun h => ((State.RangesOk.meanings True False).step ⟨fun _ => h, nofun⟩ t hstep).fans trivial,
    fun h => ((State.RangesOk.meanings False True).step ⟨nofun, fun _ => h⟩ t hstep).channels trivial⟩

end Sys2Proof.Machine
end

section
/-! Events that lose a fan (R69, R105, R106, R110, R113): what the loss and the end of its operation make of the state,
and the statements on faults, on the stuck-running timer and on isolation. -/

namespace Sys2Proof.Machine

/-! ### The end of an operation around a report -/

theorem State.EvaluatedFrom.settle {u t : State} (h : u.EvaluatedFrom t) : u.EvaluatedFrom t.settle :=
  ⟨h.line, h.fans, h.feeders, h.set, h.mask, h.levels⟩

theorem State.LossTaken.settle {u t : State} {i : Nat} (h : u.LossTaken i t) : u.LossTaken i t.settle where
  work := h.work.trans (State.FieldWork.settle t)
  member hm := by
    obtain ⟨w, hdeparted, hevaluated⟩ := h.member hm
    exact ⟨w, hdeparted, hevaluated.settle⟩
  other := h.other

theorem State.Reported.settle {u t : State} {i : Nat} {waits : Bool} (h : u.Reported i waits t) :
    u.Reported i waits t.settle where
  taken hw := (h.taken hw).settle
  waiting hw hm := by
    obtain ⟨hwork, hrest⟩ := h.waiting hw hm
    exact ⟨hwork.trans (State.FieldWork.settle t), hrest⟩

theorem State.Joined.events {s t : State} {i : Nat} {d : Direction} {c : DemandClass} (h : s.Joined i d c t) :
    t.events = s.events := by
  unfold State.Joined State.GrantsFor at h
  split at h
  · rw [h.state]
  · rw [h]

/-- A placing that asks for nothing of itself, and then the end of its operation. -/
theorem State.Placed.settle {s t : State} {i : Nat} (h : s.Placed i t) (hask : s.events.ask = false) :
    s.Placed i t.settle := by
  have hsame : t.events = s.events → t.settle = t := fun he => t.settle_of_no_ask (by rw [he]; exact hask)
  have hlost : ∀ {dest cause}, (∃ u, s.Held i dest cause u ∧ u.LossTaken i t) →
      ∃ u, s.Held i dest cause u ∧ u.LossTaken i t.settle := fun ⟨u, hheld, htaken⟩ => ⟨u, hheld, htaken.settle⟩
  constructor
  · exact fun h1 => hlost (h.isolated h1)
  · exact fun h1 h2 h3 => hlost (h.unpowered h1 h2 h3)
  · exact fun h1 h2 h3 h4 => hlost (h.faulted h1 h2 h3 h4)
  · intro h1 h2 h3 h4 h5
    have ht := h.coasting h1 h2 h3 h4 h5
    rw [hsame (by rw [ht]; rfl), ht]
  · intro h1 h2 h3 h4 h5 h6
    have ht := h.idle h1 h2 h3 h4 h5 h6
    rw [hsame (by rw [ht]; rfl), ht]
  · intro h1 h2 h3 h4 h5 d c h6
    have ht := h.queued h1 h2 h3 h4 h5 d c h6
    rwa [hsame ht.events]

/-! ### A loss, whole -/

/-- From `v`, an event has taken fan `i` to the holding state `dest` and its operation has ended in `t`: the fan's own
record, its place in the duty set, what a fan that is no member leaves alone, and the rest in the model's own terms. -/
structure State.LossMade (v : State) (i : Nat) (dest : FanState) (cause : Option LastFault) (waits : Bool)
    (t : State) : Prop where
  fan : t.fan i = { (v.fan i).heldIn dest cause v.feedbackAllowance with
    demand := if v.isMember i = true ∧ waits = false then .none else (v.fan i).demand }
  member : t.isMember i = (v.isMember i && waits)
  quiet : v.isMember i = false → t.line = v.line ∧ v.OthersOnlyStart i t
  fault : dest = .tripped ∨ dest = .failed → t.events.Shows .fanFault
  sends : t.Sends v.link.tx
  work : State.FieldWork ((v.modifyFan i (fun f => { f with lastFault := cause.getD f.lastFault })).awaiting i waits) t
  reported : ∃ u, v.Held i dest cause u ∧ u.Reported i waits t

theorem State.holdFan_isMember (v : State) (i : Nat) (dest : FanState) (cause : Option LastFault) (j : Nat) :
    (v.holdFan i dest cause).isMember j = v.isMember j := State.isMember_congr (by rw [State.holdFan_line]) j

/-- A kind that shows still shows after work of the frame. -/
theorem State.FieldWork.shows {s t : State} (h : State.FieldWork s t) {k : EventKind} (hk : s.events.Shows k) :
    t.events.Shows k := fun hm => h.grows _ (hk (by rw [← h.mask]; exact hm))

/-- Sending a report: it waits, and then no more has changed; or it is taken at once. -/
theorem State.sendReport_cases (u : State) (i : Nat) (waits : Bool) :
    (u.isMember i = true ∧ waits = true) ∧
      u.sendReport i waits = { u with line := { u.line with reports := u.line.reports ++ [i] } } ∨
    ¬ (u.isMember i = true ∧ waits = true) ∧ u.sendReport i waits = u.reportLoss i := by
  unfold State.sendReport
  by_cases h : u.isMember i = true ∧ waits = true
  · exact .inl ⟨h, if_pos (by simp [h])⟩
  · exact .inr ⟨h, if_neg (by simpa using h)⟩

/-- Sending a report leaves the link and adds to the event set alone. -/
theorem State.sendReport_rest (u : State) (i : Nat) (waits : Bool) :
    (u.sendReport i waits).link = u.link ∧ ∀ k, u.events.Shows k → (u.sendReport i waits).events.Shows k := by
  rcases u.sendReport_cases i waits with ⟨-, h⟩ | ⟨-, h⟩ <;> rw [h]
  · exact ⟨rfl, fun _ => id⟩
  · exact ⟨u.reportLoss_link i, fun _ => (State.FieldWork.reportLoss u i).shows⟩

/-- The record and the membership of a lost fan after its report has been sent (R54, R69). -/
theorem State.sendReport_record (u : State) (i : Nat) (waits : Bool) (hi : i < u.fanCount)
    (hd : (u.fan i).state.isHolding = true) :
    (u.sendReport i waits).fan i = { u.fan i with
      demand := if u.isMember i = true ∧ waits = false then .none else (u.fan i).demand } ∧
    (u.sendReport i waits).isMember i = (u.isMember i && waits) := by
  rcases u.sendReport_cases i waits with ⟨⟨hm, hw⟩, h⟩ | ⟨hn, h⟩ <;> rw [h]
  · refine ⟨?_, (show u.isMember i = (u.isMember i && waits) by simp [hm, hw])⟩
    rw [if_neg (by simp [hw])]
    rfl
  · obtain ⟨hfan, hmember, -⟩ := u.reportLoss_lost i hd hi
    rw [hfan, hmember]
    cases hm : u.isMember i <;> cases waits <;> simp_all

theorem State.loseFan_made (v : State) (i : Nat) (dest : FanState) (cause : Option LastFault) (waits : Bool)
    (hi : i < v.fanCount) (hd : dest.isHolding = true) :
    v.LossMade i dest cause waits (v.loseFan i dest cause waits).settle := by
  have hheld := v.holdFan_held i dest cause hd
  have hfan := hheld.fan hi
  have hmember := v.holdFan_isMember i dest cause i
  obtain ⟨hrecord, hstands⟩ := (v.holdFan i dest cause).sendReport_record i waits
    (by rw [State.holdFan_fanCount]; exact hi) (by rw [hfan]; exact hd)
  obtain ⟨hlink, hshows⟩ := (v.holdFan i dest cause).sendReport_rest i waits
  rw [hmember] at hstands
  rw [hmember, hfan] at hrecord
  refine { fan := hrecord, member := hstands, quiet := fun hm => ?_, fault := fun h => hshows _ (hheld.fault h),
           sends := ?_, work := (State.FieldWork.loseFan v i dest cause waits).trans (State.FieldWork.settle _),
           reported := ⟨_, hheld, ((v.holdFan i dest cause).sendReport_reported i waits).settle⟩ }
  · have hquiet : v.loseFan i dest cause waits = v.holdFan i dest cause := by
      rcases (v.holdFan i dest cause).sendReport_cases i waits with ⟨⟨hm', -⟩, -⟩ | ⟨-, h⟩
      · simp [hmember, hm] at hm'
      · exact h.trans (if_neg (by simp [hmember, hm]))
    rw [hquiet]
    exact ⟨hheld.line, hheld.others⟩
  · have hsends := State.settle_sends (v.loseFan i dest cause waits)
    rwa [State.loseFan, hlink, hheld.link] at hsends

/-! ### An input recorded, then the loss -/

/-- The recording of an input leaves what a loss reads of the fan. -/
structure Fan.Records (input : Fan → Fan) : Prop where
  run : ∀ f, (input f).run = f.run
  dirOut : ∀ f, (input f).dirOut = f.dirOut
  coastTimer : ∀ f, (input f).coastTimer = f.coastTimer
  demand : ∀ f, (input f).demand = f.demand
  restartUsed : ∀ f, (input f).restartUsed = f.restartUsed

section
variable {s t : State} {i : Nat} {input : Fan → Fan} {dest : FanState} {cause : Option LastFault}
  (hmade : (s.nextFree.modifyFan i input).LossMade i dest cause s.reportWaits t)
include hmade

theorem State.LossMade.record (hi : i < s.fanCount) : t.fan i = { (input (s.fan i)).heldIn dest cause
    s.feedbackAllowance with
      demand := if s.isMember i = true ∧ s.reportWaits = false then .none else (input (s.fan i)).demand } := by
  rw [hmade.fan, State.fan_modifyFan_self s.nextFree i input hi]
  rfl

theorem State.LossMade.quiet_of (hm : s.isMember i = false) : t.line = s.line ∧ s.OthersOnlyStart i t := by
  obtain ⟨hline, hothers⟩ := hmade.quiet hm
  refine ⟨hline, fun j hj => ?_⟩
  have hsame : (s.nextFree.modifyFan i input).fan j = s.fan j := State.fan_modifyFan_ne s.nextFree i j input hj
  have hj := hothers j hj
  rwa [hsame] at hj

theorem State.LossMade.work_of : State.FieldWork ((s.nextFree.modifyFan i (fun f =>
    { input f with lastFault := cause.getD (input f).lastFault })).awaiting i s.reportWaits) t := by
  have hwork := hmade.work
  rwa [State.modifyFan_modifyFan] at hwork

end

theorem State.modifyFan_id (s : State) (i : Nat) : s.modifyFan i id = s := s.modifyFan_eq_self i id fun _ => rfl

/-- The holding state in which a fault that TRIPPED may clear once puts the fan (R105). -/
def Fan.faultState (f : Fan) : FanState := if f.restartUsed then .failed else .tripped

theorem Fan.faultState_holding (f : Fan) : f.faultState.isHolding = true := by
  unfold Fan.faultState
  split <;> rfl

theorem Fan.faultState_fault (f : Fan) : f.faultState = .tripped ∨ f.faultState = .failed := by
  unfold Fan.faultState
  split <;> simp

theorem State.tripFan_made (s : State) (i : Nat) (hi : i < s.fanCount) {input : Fan → Fan} (hinput : Fan.Records input)
    (cause : LastFault) : (s.nextFree.modifyFan i input).LossMade i (s.fan i).faultState (some cause) s.reportWaits
      ((s.nextFree.modifyFan i input).tripFan i cause s.reportWaits).settle := by
  have hstate : (s.fan i).faultState = ((s.nextFree.modifyFan i input).fan i).faultState := by
    rw [State.fan_modifyFan_self s.nextFree i input hi, Fan.faultState, Fan.faultState, hinput.restartUsed]
    rfl
  rw [hstate]
  exact State.loseFan_made _ i _ _ _ (by rw [State.modifyFan_fanCount]; exact hi) (Fan.faultState_holding _)

/-- An event of an installed fan, by the state that its work makes. -/
theorem State.atFan_next {s v : State} {i : Nat} {act : Fan → State → State} (hi : i < s.fanCount)
    (h : act (s.fan i) s = v) : (.next (s.atFan i act) : Result) = .next v.settle := by
  rw [State.atFan, if_pos hi, h]

/-- An event of an installed fan that raises no event. -/
theorem State.atFan_quiet {s v : State} {i : Nat} {act : Fan → State → State} (hi : i < s.fanCount)
    (hask : s.events.ask = false) (h : act (s.fan i) s = v) (hv : v.events = s.events) :
    (.next (s.atFan i act) : Result) = .next v := by
  rw [State.atFan_next hi h, v.settle_of_no_ask (by rw [hv]; exact hask)]

/-! ### Faults -/

/-- Settles O42: each of the three causes is a loss from the state with its input recorded; elsewhere the event records
its level or does nothing. -/
theorem faultsEnterTrippedOrFailed : Obligations.FaultsEnterTrippedOrFailed := by
  intro s i hi hask f faulted
  have key : ∀ cause (input : Fan → Fan), Fan.Records input →
      faulted cause input ((s.nextFree.modifyFan i input).tripFan i cause s.reportWaits).settle := by
    intro cause input hinput
    have hmade := s.tripFan_made i hi hinput cause
    have hfan := hmade.record hi
    refine ⟨by rw [hfan]; rfl, by rw [hfan]; rfl, ?_, ?_, hmade.member, fun hm => ?_, fun hm => ?_,
      hmade.fault (Fan.faultState_fault _), hmade.sends, hmade.work_of, hmade.reported⟩
    · rw [hfan]
      exact hinput.dirOut _
    · rw [hfan]
      simp only [Fan.heldIn, hinput.run, hinput.coastTimer]
      rfl
    · rw [hfan]
      simp only [hm, hinput.demand, true_and]
      cases s.reportWaits <;> rfl
    · obtain ⟨hline, hothers⟩ := hmade.quiet_of hm
      refine ⟨?_, hline, hothers⟩
      rw [hfan]
      simp only [hm, hinput.demand]
      rfl
  refine ⟨fun ht hw => ⟨_, ?_, key .trip (fun f => { f with trip := true }) ?_⟩,
    fun d hs hfb => ⟨_, ?_, key .uncommandedStop (fun f => { f with fb := false, stuckTimer := none }) ?_⟩,
    fun d left hs hfb => ⟨_, ?_, key .failToStart id ?_⟩, fun ht hh => ?_, fun ht => ?_, fun hs => ?_⟩
  · exact State.atFan_next hi ((if_neg (by simp [f, ht])).trans (if_pos hw))
  · exact ⟨fun _ => rfl, fun _ => rfl, fun _ => rfl, fun _ => rfl, fun _ => rfl⟩
  · refine State.atFan_next hi ((if_pos hfb).trans ?_)
    dsimp only
    rw [hs]
    rfl
  · exact ⟨fun _ => rfl, fun _ => rfl, fun _ => rfl, fun _ => rfl, fun _ => rfl⟩
  · refine State.atFan_next hi ?_
    rw [hs]
    exact (if_neg (by simp [f, hfb])).trans (by rw [State.modifyFan_id])
  · exact ⟨fun _ => rfl, fun _ => rfl, fun _ => rfl, fun _ => rfl, fun _ => rfl⟩
  · have hw : ¬ (s.fan i).state.isWorking = true := by simpa [FanState.isHolding] using hh
    exact State.atFan_quiet hi hask ((if_neg (by simp [f, ht])).trans (if_neg hw)) rfl
  · exact State.atFan_quiet hi hask (if_pos ht) rfl
  · refine State.atFan_quiet hi hask ?_ rfl
    split
    next d left h => exact absurd h (hs d left)
    next => rfl

/-! ### The stuck-running timer -/

/-- Settles O43: the expiry is a loss to FAILED from the state as it stands. -/
theorem stuckRunningEntersFailed : Obligations.StuckRunningEntersFailed := by
  intro s i hi hask f
  refine ⟨fun left hleft => ⟨_, State.atFan_next hi (if_pos (by simp [f, hleft])), ?_⟩, fun hnone =>
    State.atFan_quiet hi hask (if_neg (by simp [f, hnone])) rfl⟩
  have hmade := State.loseFan_made (s.nextFree.modifyFan i id) i .failed (some .stuckRunning) s.reportWaits
    (by rw [State.modifyFan_fanCount]; exact hi) rfl
  have hfan := hmade.record hi
  have hwork := hmade.work_of
  have hquiet := fun hm => hmade.quiet_of hm
  rw [State.modifyFan_id] at hmade hfan hwork hquiet
  refine ⟨by rw [hfan]; rfl, by rw [hfan]; rfl, by rw [hfan]; rfl, fun hr => ?_, hmade.member, fun hm => ?_,
    hmade.fault (.inr rfl), hmade.sends, hwork, hmade.reported⟩
  · rw [hfan]
    exact if_neg (by simp [f, hr])
  · obtain ⟨hline, hothers⟩ := hquiet hm
    refine ⟨?_, hline, hothers⟩
    rw [hfan, hm]
    rfl

/-! ### Isolation -/

/-- Changes of one fan that agree on its record are one change. -/
theorem State.modifyFan_congr {s : State} {i : Nat} {f g : Fan → Fan} (hi : i < s.fanCount)
    (h : f (s.fan i) = g (s.fan i)) : s.modifyFan i f = s.modifyFan i g := by
  have hget : s.fan i = s.fans[i] := List.getD_eq_getElem s.fans Fan.afterReset hi
  rw [hget] at h
  have hfans : s.fans.modify i f = s.fans.modify i g := by
    rw [List.modify_eq_set_get f hi, List.modify_eq_set_get g hi]
    exact congrArg (s.fans.set i) h
  rw [State.modifyFan, State.modifyFan, hfans]

section
variable {v : State} {i : Nat} (hiso : (v.fan i).iso = false) (hl : (v.fan i).lockout = false)
include hiso hl

/-- The placing of a fan that nothing keeps ISOLATED (R109). -/
theorem State.placeFan_released :
    v.onDeadFeeder i = true ∧ v.placeFan i = v.enterHolding i .unpowered none ∨
    v.onDeadFeeder i = false ∧ (v.fan i).trip = true ∧
      v.placeFan i = v.enterHolding i (v.fan i).faultState (some .trip) ∨
    v.onDeadFeeder i = false ∧ (v.fan i).trip = false := by
  cases hdead : v.onDeadFeeder i
  · cases htrip : (v.fan i).trip
    · exact .inr (.inr ⟨rfl, rfl⟩)
    · refine .inr (.inl ⟨rfl, rfl, ?_⟩)
      have hplace : v.placeFan i = v.tripFan i .trip false := by simp [State.placeFan, hiso, hl, hdead, htrip]
      rw [hplace]
      exact State.loseFan_false ..
  · exact .inl ⟨rfl, by simp [State.placeFan, hiso, hl, hdead]⟩

/-- A placing that loses no member leaves the line, the fan's demand and the other fans but to start them. -/
theorem State.placeFan_released_quiet (hi : i < v.fanCount)
    (hq : v.isMember i = false ∨ v.onDeadFeeder i = false ∧ (v.fan i).trip = false) :
    ((v.placeFan i).fan i).demand = (v.fan i).demand ∧ (v.placeFan i).line = v.line ∧
      v.OthersOnlyStart i (v.placeFan i) := by
  have holding : ∀ dest cause, dest.isHolding = true → v.isMember i = false →
      ((v.enterHolding i dest cause).fan i).demand = (v.fan i).demand ∧ (v.enterHolding i dest cause).line = v.line ∧
        v.OthersOnlyStart i (v.enterHolding i dest cause) := by
    intro dest cause hd hm
    have hheld := v.holdFan_held i dest cause hd
    rw [v.enterHolding_of_not_member i dest cause hm]
    exact ⟨by rw [hheld.fan hi]; rfl, hheld.line, hheld.others⟩
  rcases State.placeFan_released hiso hl with ⟨hdead, h⟩ | ⟨hdead, htrip, h⟩ | ⟨hdead, htrip⟩
  · rw [h]
    exact holding _ _ rfl (by simpa [hdead] using hq)
  · rw [h]
    exact holding _ _ (Fan.faultState_holding _) (by simpa [hdead, htrip] using hq)
  · obtain ⟨hline, -, hdemand, hothers⟩ := State.placeFan_quiet hi hl htrip (by simp [hiso, hdead])
    exact ⟨hdemand, hline, hothers⟩

/-- A placing under an active TRIP leaves TRIP as the last fault, any other none (R105, R109). -/
theorem State.FieldWork.placeFan_released (hi : i < v.fanCount) : State.FieldWork (v.modifyFan i (fun f => { f with
    lastFault := if v.onDeadFeeder i = false ∧ f.trip = true then .trip else f.lastFault })) (v.placeFan i) := by
  have hbase : ∀ fault, (if v.onDeadFeeder i = false ∧ (v.fan i).trip = true then .trip else (v.fan i).lastFault) =
      fault → v.modifyFan i (fun f => { f with
        lastFault := if v.onDeadFeeder i = false ∧ f.trip = true then .trip else f.lastFault }) =
      v.modifyFan i (fun f => { f with lastFault := fault }) := fun fault h =>
    State.modifyFan_congr hi (by rw [h])
  have hsame : v.modifyFan i (fun f => { f with lastFault := (v.fan i).lastFault }) = v :=
    v.modifyFan_eq_self i _ fun _ => rfl
  rcases State.placeFan_released hiso hl with ⟨hdead, h⟩ | ⟨hdead, htrip, h⟩ | ⟨hdead, htrip⟩
  · rw [hbase _ (if_neg (by simp [hdead])), hsame, h]
    exact State.FieldWork.enterHolding_none v i _
  · rw [hbase _ (if_pos ⟨hdead, htrip⟩), h]
    exact State.FieldWork.enterHolding v i _ (some .trip)
  · rw [hbase _ (if_neg (by simp [htrip])), hsame]
    exact State.FieldWork.placeFan v i htrip

/-- The state in which a fan that nothing keeps ISOLATED is placed (R109). -/
theorem State.placeFan_released_state (hi : i < v.fanCount) :
    (v.onDeadFeeder i = true → ((v.placeFan i).fan i).state = .unpowered) ∧
    (v.onDeadFeeder i = false → (v.fan i).trip = true →
      ((v.placeFan i).fan i).state = (v.fan i).faultState ∧ (v.placeFan i).events.Shows .fanFault) := by
  have holding := fun dest cause hd => v.enterHolding_record i dest cause hi hd
  rcases State.placeFan_released hiso hl with ⟨hdead, h⟩ | ⟨hdead, htrip, h⟩ | ⟨hdead, htrip⟩
  · simp [hdead, h, holding .unpowered none rfl, Fan.heldIn]
  · simp only [hdead, htrip, h, holding _ (some .trip) (Fan.faultState_holding _)]
    refine ⟨nofun, fun _ _ => ⟨rfl, ?_⟩⟩
    exact (State.FieldWork.reportLoss _ i).shows
      ((v.holdFan_held i _ (some .trip) (Fan.faultState_holding _)).fault (Fan.faultState_fault _))
  · simp [hdead, htrip]

end

/-- Settles O45: ISO becoming active is a loss, ISO becoming inactive a placing, each from the state with its input
recorded. -/
theorem isolationMovesTheFan : Obligations.IsolationMovesTheFan := by
  intro s i hi hask f
  refine ⟨fun hoff hw => ⟨_, State.atFan_next hi ((if_neg (by simp [f, hoff])).trans (if_pos hw)), ?_⟩,
    fun hoff hh => ?_, fun hon hstays => ?_, fun hon hisolated hfree =>
      ⟨_, State.atFan_next hi ((if_pos hon).trans (if_pos ⟨hisolated, hfree⟩)), ?_⟩,
    fun hon => State.atFan_quiet hi hask (if_pos hon) rfl,
    fun hoff => State.atFan_quiet hi hask (if_neg (by simp [f, hoff])) rfl⟩
  · have hmade := State.loseFan_made (s.nextFree.modifyFan i (fun f => { f with iso := true })) i .isolated none
      s.reportWaits (by rw [State.modifyFan_fanCount]; exact hi) rfl
    have hfan := hmade.record hi
    refine ⟨congrArg Fan.state hfan, congrArg Fan.run hfan, congrArg Fan.coastTimer hfan, hmade.member, hmade.sends,
      fun hm => ?_, hmade.work_of, hmade.reported⟩
    obtain ⟨hline, hothers⟩ := hmade.quiet_of hm
    refine ⟨(congrArg Fan.demand hfan).trans ?_, hline, hothers⟩
    rw [hm]
    rfl
  · have hw : ¬ (s.fan i).state.isWorking = true := by simpa [FanState.isHolding] using hh
    exact State.atFan_quiet hi hask ((if_neg (by simp [f, hoff])).trans (if_neg hw)) rfl
  · refine State.atFan_quiet hi hask ((if_pos hon).trans (if_neg ?_)) rfl
    rintro ⟨hisolated, hfree⟩
    rcases hstays with h | h
    · exact h hisolated
    · exact Bool.false_ne_true (hfree.symm.trans h)
  · set v := s.modifyFan i (fun f => { f with iso := false })
    have hvi : v.fan i = { f with iso := false } := State.fan_modifyFan_self s i _ hi
    have hcount : i < v.fanCount := by rw [State.modifyFan_fanCount]; exact hi
    have hiso : (v.fan i).iso = false := by rw [hvi]
    have hlock : (v.fan i).lockout = false := by rw [hvi]; exact hfree
    have htrip : (v.fan i).trip = f.trip := by rw [hvi]
    obtain ⟨hunpowered, hfaulted⟩ := State.placeFan_released_state hiso hlock hcount
    have hwork := State.FieldWork.placeFan_released hiso hlock hcount
    rw [State.modifyFan_modifyFan] at hwork
    have hsends := State.settle_sends (v.placeFan i)
    rw [State.placeFan_link] at hsends
    refine ⟨hwork.trans (State.FieldWork.settle _), fun hq => ?_, hsends, (v.placeFan_placed i hcount).settle hask,
      hunpowered, fun hdead ht => ?_, ?_, ?_, ?_⟩
    · obtain ⟨hdemand, hline, hothers⟩ := State.placeFan_released_quiet hiso hlock hcount
        (hq.imp id fun ⟨hdead, ht⟩ => ⟨hdead, htrip.trans ht⟩)
      refine ⟨hdemand.trans (by rw [hvi]), hline, fun j hj => ?_⟩
      have hsame : v.fan j = s.fan j := State.fan_modifyFan_ne s i j _ hj
      have hj := hothers j hj
      rwa [hsame] at hj
    · obtain ⟨hstate, hshows⟩ := hfaulted hdead (htrip.trans ht)
      exact ⟨hstate.trans (by rw [hvi]; rfl), hshows⟩
    all_goals
      intro hdead ht
      obtain ⟨-, -, hcoasting, hidle, hqueued⟩ := State.placeFan_state hcount hlock (htrip.trans ht)
      rw [hvi] at hcoasting hidle hqueued
    · exact hcoasting rfl hdead
    · exact hidle rfl hdead
    · exact hqueued rfl hdead

end Sys2Proof.Machine
end

section
/-! A feeder that dies (R111, R127): what taking one fan leaves of the others, the fans taken along the list, the chain of
states between them, and the statement. -/

namespace Sys2Proof.Machine

/-! ### What the duty set's operations leave of a fan's state -/

/-- From `s` to `t` every fan is usable or lost as it was, and a lost one may only have had its demand written. -/
structure State.Steady (s t : State) : Prop where
  working : ∀ j, (t.fan j).state.isWorking = (s.fan j).state.isWorking
  holding : ∀ j, (s.fan j).state.isHolding = true → ∃ d, t.fan j = { s.fan j with demand := d }

theorem State.Steady.refl (s : State) : s.Steady s := ⟨fun _ => rfl, fun _ _ => ⟨_, rfl⟩⟩

theorem State.Steady.trans {s t u : State} (a : s.Steady t) (b : t.Steady u) : s.Steady u where
  working j := (b.working j).trans (a.working j)
  holding j hj := by
    obtain ⟨d, hd⟩ := a.holding j hj
    obtain ⟨d', hd'⟩ := b.holding j (by rw [hd]; exact hj)
    exact ⟨d', by rw [hd', hd]⟩

/-- The later part first: where the state between is read off it. -/
theorem State.Steady.after {s t u : State} (b : t.Steady u) (a : s.Steady t) : s.Steady u := a.trans b

theorem State.Steady.of_fans {s t : State} (h : t.fans = s.fans) : s.Steady t :=
  ⟨fun j => by rw [State.fan_congr h], fun j _ => ⟨_, State.fan_congr h j⟩⟩

theorem State.Steady.writeDemand (s : State) (i : Nat) (d : Demand) : s.Steady (s.writeDemand i d) where
  working := s.writeDemand_isWorking i d
  holding j hj := by
    by_cases hji : j = i
    · subst hji
      rw [s.writeDemand_holding j d hj]
      split
      · exact ⟨_, rfl⟩
      · rcases Nat.lt_or_ge j s.fanCount with hlt | hge
        · exact ⟨d, State.fan_modifyFan_self s j _ hlt⟩
        · exact ⟨_, by rw [State.modifyFan_none s j _ hge]⟩
    · exact ⟨_, s.writeDemand_keeps i j d hji (FanState.ne_queued_of_holding hj)⟩

theorem DutyFrame.steady : DutyFrame State.Steady where
  refl := State.Steady.refl
  trans _ _ _ := State.Steady.trans
  setDuty _ _ := .of_fans rfl
  join _ _ i _ _ := (State.Steady.writeDemand _ i _).after (.of_fans rfl)
  remove _ i := (State.Steady.writeDemand _ i _).after (.of_fans rfl)

theorem State.Steady.reportLoss (s : State) (i : Nat) : s.Steady (s.reportLoss i) :=
  ite_keeps ((DutyFrame.steady.remove s i).trans
    (DutyFrame.steady.evaluate (fun _ _ => .of_fans rfl) (fun _ => .of_fans rfl) _)) (State.Steady.refl s)

theorem State.Steady.sendReport (s : State) (i : Nat) (waits : Bool) : s.Steady (s.sendReport i waits) :=
  ite_keeps (State.Steady.of_fans rfl) (State.Steady.reportLoss s i)

theorem State.Lost.sendReport {s : State} {i : Nat} {f : Fan} (h : s.Lost i f) {j : Nat} (hj : j ≠ i) (waits : Bool) :
    (s.sendReport j waits).Lost i f :=
  ite_keeps (P := fun t : State => t.Lost i f) ⟨h.1, h.2.1, h.2.2⟩
    (ite_keeps (P := fun t : State => t.Lost i f) (h.removeMember j hj).evaluate h)

/-! ### One fan taken -/

theorem FanState.losesPower_iff (x : FanState) : x.losesPower = true ↔ x.isWorking = true ∨ x = .tripped := by
  cases x <;> simp [FanState.losesPower, FanState.isWorking]

theorem FanState.holding_of_keeps {x : FanState} (h : x.losesPower = false) : x.isHolding = true := by
  cases x <;> simp_all [FanState.losesPower, FanState.isHolding, FanState.isWorking]

/-- Fan `i` enters UNPOWERED, or stays in the state that no dead feeder takes. -/
theorem State.losePower_cases (s : State) (i : Nat) (waits : Bool) :
    (s.fan i).state.losesPower = true ∧ s.losePower i waits = s.loseFan i .unpowered none waits ∨
    (s.fan i).state.losesPower = false ∧ s.losePower i waits = s := by
  unfold State.losePower
  cases (s.fan i).state.losesPower
  · exact .inr ⟨rfl, rfl⟩
  · exact .inl ⟨rfl, rfl⟩

section
variable (s : State) {i j : Nat} (hij : i ≠ j) (waits : Bool)
include hij

theorem State.losePower_working (h : (s.fan i).state.isWorking = true) :
    ((s.losePower j waits).fan i).state.isWorking = true := by
  rcases s.losePower_cases j waits with ⟨-, hl⟩ | ⟨-, hl⟩ <;> rw [hl]
  · refine ((State.Steady.sendReport _ j waits).working i).trans ?_
    rcases (s.holdFan_held j .unpowered none rfl).others i hij with hfan | ⟨-, d, hfan⟩ <;> rw [hfan]
    · exact h
    · rfl
  · exact h

/-- Taking one fan leaves every other that is in a holding state as it is, but for its demand. -/
theorem State.losePower_holding (h : (s.fan i).state.isHolding = true) :
    ∃ d, (s.losePower j waits).fan i = { s.fan i with demand := d } := by
  rcases s.losePower_cases j waits with ⟨-, hl⟩ | ⟨-, hl⟩ <;> rw [hl]
  · have hfan : (s.holdFan j .unpowered none).fan i = s.fan i := by
      rcases (s.holdFan_held j .unpowered none rfl).others i hij with hfan | ⟨hq, -⟩
      · exact hfan
      · exact absurd hq (FanState.ne_queued_of_holding h)
    have hholding := (State.Steady.sendReport (s.holdFan j .unpowered none) j waits).holding i
    rw [hfan] at hholding
    exact hholding h
  · exact ⟨_, rfl⟩

theorem State.losePower_losesPower (h : (s.fan i).state.losesPower = true) :
    ((s.losePower j waits).fan i).state.losesPower = true := by
  rw [FanState.losesPower_iff] at h ⊢
  rcases h with h | h
  · exact .inl (s.losePower_working hij waits h)
  · obtain ⟨d, hd⟩ := s.losePower_holding hij waits (by rw [h]; rfl)
    exact .inr (by rw [hd]; exact h)

theorem State.Lost.losePower {s : State} {f : Fan} (h : s.Lost i f) : (s.losePower j waits).Lost i f := by
  rcases s.losePower_cases j waits with ⟨-, hl⟩ | ⟨-, hl⟩ <;> rw [hl]
  · have hheld := s.holdFan_held j .unpowered none rfl
    have hlost : (s.holdFan j .unpowered none).Lost i f := by
      refine ⟨?_, (s.holdFan_isMember j .unpowered none i).trans h.2.1, h.2.2⟩
      rcases hheld.others i hij with hfan | ⟨hq, -⟩
      · exact hfan.trans h.1
      · rw [h.1] at hq
        exact absurd hq (FanState.ne_queued_of_holding h.2.2)
    exact hlost.sendReport (Ne.symm hij) waits
  · exact h

end

theorem State.losePower_link (s : State) (i : Nat) (waits : Bool) : (s.losePower i waits).link = s.link := by
  rcases s.losePower_cases i waits with ⟨-, hl⟩ | ⟨-, hl⟩ <;> rw [hl]
  exact ((s.holdFan i .unpowered none).sendReport_rest i waits).1.trans (s.holdFan_held i .unpowered none rfl).link

/-- Work of the frame in which a report may have been left waiting. -/
def State.WorkBut (s t : State) : Prop :=
  State.FieldWork { s with line := { s.line with reports := t.line.reports } } t

theorem State.WorkBut.refl (s : State) : s.WorkBut s := State.FieldWork.refl s

theorem State.WorkBut.trans {s t u : State} (a : s.WorkBut t) (b : t.WorkBut u) : s.WorkBut u := by
  have hreports : State.FieldWork { s with line := { s.line with reports := u.line.reports } }
      { t with line := { t.line with reports := u.line.reports } } := { a with reports := rfl }
  exact hreports.trans b

theorem State.WorkBut.of_fieldWork {s t : State} (h : State.FieldWork s t) : s.WorkBut t := { h with reports := rfl }

theorem State.WorkBut.losePower (s : State) (i : Nat) (waits : Bool) : s.WorkBut (s.losePower i waits) := by
  rcases s.losePower_cases i waits with ⟨-, hl⟩ | ⟨-, hl⟩ <;> rw [hl]
  · have hwork := State.FieldWork.loseFan s i .unpowered none waits
    rw [s.modifyFan_eq_self i _ fun _ => rfl] at hwork
    exact { hwork with reports := rfl }
  · exact State.WorkBut.refl s

/-- A fan taken with its report acted on at once leaves the waiting reports. -/
theorem State.losePower_reports (s : State) (i : Nat) : (s.losePower i false).line.reports = s.line.reports :=
  (State.FieldWork.losePower s i).reports

/-- What the fan itself and its report become (R54, R69, R111). -/
theorem State.losePower_taken (s : State) (i : Nat) (waits : Bool) (hi : i < s.fanCount)
    (h : (s.fan i).state.losesPower = true) :
    ((s.losePower i waits).fan i).state = .unpowered ∧ ((s.losePower i waits).fan i).run = false ∧
      ((s.losePower i waits).isMember i = false ∨
        waits = true ∧ (s.losePower i waits).line.reports = s.line.reports ++ [i]) := by
  rcases s.losePower_cases i waits with ⟨-, hl⟩ | ⟨hn, -⟩
  · rw [hl]
    have hmade := s.loseFan_made i .unpowered none waits hi rfl
    refine ⟨congrArg Fan.state hmade.fan, congrArg Fan.run hmade.fan, ?_⟩
    have hmember : (s.loseFan i .unpowered none waits).isMember i = (s.isMember i && waits) := hmade.member
    have hreports := (State.FieldWork.loseFan s i .unpowered none waits).reports
    cases hm : s.isMember i && waits
    · exact .inl (hmember.trans hm)
    · rw [Bool.and_eq_true] at hm
      refine .inr ⟨hm.2, hreports.trans ?_⟩
      rw [State.awaiting_reports]
      exact congrArg (s.line.reports ++ ·) (if_pos (by simpa [State.isMember] using hm))
  · simp [hn] at h

/-! ### The fans taken along a list -/

section
variable (waits : Bool)

theorem State.losePowers_link (l : List Nat) (s : State) : (s.losePowers waits l).link = s.link := by
  induction l generalizing s with
  | nil => rfl
  | cons j js ih => exact (ih _).trans (s.losePower_link j _)

theorem State.WorkBut.losePowers (l : List Nat) (s : State) : s.WorkBut (s.losePowers waits l) := by
  induction l generalizing s with
  | nil => exact State.WorkBut.refl s
  | cons j js ih => exact (State.WorkBut.losePower s j _).trans (ih _)

/-- Where no fan is taken nothing changes. -/
theorem State.losePowers_none (l : List Nat) (s : State) (h : ∀ j ∈ l, (s.fan j).state.losesPower = false) :
    s.losePowers waits l = s := by
  induction l generalizing s with
  | nil => rfl
  | cons j js ih =>
    have hstays : ∀ w, s.losePower j w = s := fun w => if_neg (by simp [h j (List.mem_cons_self ..)])
    rw [State.losePowers_cons, hstays]
    exact ih s fun k hk => h k (List.mem_cons_of_mem _ hk)

theorem State.Lost.losePowers {i : Nat} {f : Fan} (l : List Nat) {s : State} (h : s.Lost i f) (hi : i ∉ l) :
    (s.losePowers waits l).Lost i f := by
  induction l generalizing s with
  | nil => exact h
  | cons j js ih =>
    obtain ⟨hij, hi⟩ := not_or.mp (List.mem_cons.not.mp hi)
    exact ih (h.losePower hij _) hi

/-- A fan in a state that no dead feeder takes keeps it (R111). -/
theorem State.losePowers_keeps {i : Nat} (l : List Nat) (s : State) (h : (s.fan i).state.losesPower = false) :
    ((s.losePowers waits l).fan i).state = (s.fan i).state ∧ ((s.losePowers waits l).fan i).run = (s.fan i).run := by
  induction l generalizing s with
  | nil => exact ⟨rfl, rfl⟩
  | cons j js ih =>
    rw [State.losePowers_cons]
    set flag := !js.any (fun k => (s.fan k).state.losesPower) && waits
    have hfan : ∃ d, (s.losePower j flag).fan i = { s.fan i with demand := d } := by
      by_cases hij : i = j
      · subst hij
        exact ⟨_, congrArg (fun t : State => t.fan i) (if_neg (by simp [h]))⟩
      · exact s.losePower_holding hij flag (FanState.holding_of_keeps h)
    obtain ⟨d, hd⟩ := hfan
    have := ih (s.losePower j flag) (by rw [hd]; exact h)
    rwa [hd] at this

/-- A fan of the list that loses power is taken: UNPOWERED, RUN off, and out of the duty set unless its report, the last,
waits (R54, R69, R111). -/
theorem State.losePowers_takes {i : Nat} (l : List Nat) (s : State) (hnodup : l.Nodup) (hl : i ∈ l)
    (hi : i < s.fanCount) (h : (s.fan i).state.losesPower = true) :
    ((s.losePowers waits l).fan i).state = .unpowered ∧ ((s.losePowers waits l).fan i).run = false ∧
      ((s.losePowers waits l).isMember i = false ∨
        waits = true ∧ (s.losePowers waits l).line.reports = s.line.reports ++ [i]) := by
  induction l generalizing s with
  | nil => cases hl
  | cons j js ih =>
    obtain ⟨hj, hnodup⟩ := List.nodup_cons.mp hnodup
    rw [State.losePowers_cons]
    set flag := !js.any (fun k => (s.fan k).state.losesPower) && waits with hflag
    by_cases hij : i = j
    · subst hij
      obtain ⟨hstate, hrun, hreport⟩ := s.losePower_taken i flag hi h
      rcases hreport with hm | ⟨hwaits, hreports⟩
      · have hlost : (s.losePower i flag).Lost i ((s.losePower i flag).fan i) := ⟨rfl, hm, by rw [hstate]; rfl⟩
        obtain ⟨hfan, hmember, -⟩ := hlost.losePowers waits js hj
        rw [hfan]
        exact ⟨hstate, hrun, .inl hmember⟩
      · have hlast : js.any (fun k => (s.fan k).state.losesPower) = false := by simp_all
        have hnone : ∀ k ∈ js, ((s.losePower i flag).fan k).state.losesPower = false := by
          intro k hk
          have hstays := Bool.eq_false_iff.mpr (List.any_eq_false.mp hlast k hk)
          have hki : k ≠ i := fun hki => hj (by rw [← hki]; exact hk)
          obtain ⟨d, hd⟩ := s.losePower_holding hki flag (FanState.holding_of_keeps hstays)
          rw [hd]
          exact hstays
        rw [State.losePowers_none waits js _ hnone]
        rw [hflag, Bool.and_eq_true] at hwaits
        exact ⟨hstate, hrun, .inr ⟨hwaits.2, hreports⟩⟩
    · have hmem : i ∈ js := (List.mem_cons.mp hl).resolve_left hij
      have hnot : flag = false := by
        have : js.any (fun k => (s.fan k).state.losesPower) = true := List.any_eq_true.mpr ⟨i, hmem, h⟩
        simp [hflag, this]
      have hcount : (s.losePower j flag).fanCount = s.fanCount := (State.WorkBut.losePower s j flag).fanCount
      have hreports : (s.losePower j flag).line.reports = s.line.reports := by
        rw [hnot]
        exact s.losePower_reports j
      rw [← hreports]
      exact ih (s.losePower j flag) hnodup hmem (hcount ▸ hi) (s.losePower_losesPower hij flag h)

end

/-! ### The chain of states -/

/-- The fans that stand before fan `k` taken one by one, of the fans below `count` for which `p` holds: the report of
the last alone may wait. -/
def State.takenPath (p : Nat → Bool) (waits : Bool) (count : Nat) (s : State) : Nat → State
  | 0 => s
  | k + 1 =>
    let u := State.takenPath p waits count s k
    if p k then
      u.losePower k (!((List.range' (k + 1) (count - (k + 1))).filter p).any
        (fun j => (u.fan j).state.losesPower) && waits)
    else u

/-- The fans taken along a list are the end of the chain. -/
theorem State.losePowers_takenPath (p : Nat → Bool) (waits : Bool) (count : Nat) (s : State) (m k : Nat)
    (hk : k + m = count) : (s.takenPath p waits count k).losePowers waits ((List.range' k m).filter p) =
      s.takenPath p waits count count := by
  induction m generalizing k with
  | zero =>
    obtain rfl : k = count := hk
    rfl
  | succ m ih =>
    have hrest : count - (k + 1) = m := by omega
    have hstep : s.takenPath p waits count (k + 1) = if p k then (s.takenPath p waits count k).losePower k
        (!((List.range' (k + 1) m).filter p).any (fun j => ((s.takenPath p waits count k).fan j).state.losesPower)
          && waits) else s.takenPath p waits count k := by rw [← hrest]; rfl
    rw [← ih (k + 1) (by omega), hstep, List.range'_succ, List.filter_cons]
    split <;> rfl

/-- A fan of the chain that loses power is taken; its report is acted on, unless no later fan is taken and it may wait
(R111). -/
theorem State.takenPath_taken (p : Nat → Bool) (waits : Bool) {count : Nat} (s : State) {i : Nat} (hp : p i = true)
    (htaken : ((s.takenPath p waits count i).fan i).state.losesPower = true) :
    ∃ u, (s.takenPath p waits count i).Held i .unpowered none u ∧
      ((∃ j, i < j ∧ j < count ∧ p j = true ∧ ((s.takenPath p waits count i).fan j).state.losesPower = true) →
        u.LossTaken i (s.takenPath p waits count (i + 1))) ∧
      ((∀ j, i < j → j < count → ¬ (p j = true ∧
          ((s.takenPath p waits count i).fan j).state.losesPower = true)) →
        u.Reported i waits (s.takenPath p waits count (i + 1))) := by
  set u := s.takenPath p waits count i with hu
  set later := ((List.range' (i + 1) (count - (i + 1))).filter p).any (fun j => (u.fan j).state.losesPower)
  have hlater : later = true ↔ ∃ j, i < j ∧ j < count ∧ p j = true ∧ (u.fan j).state.losesPower = true := by
    simp only [later, List.any_eq_true, List.mem_filter, List.mem_range'_1]
    constructor
    · rintro ⟨j, ⟨⟨h1, h2⟩, hpj⟩, hj⟩
      exact ⟨j, by omega, by omega, hpj, hj⟩
    · rintro ⟨j, h1, h2, hpj, hj⟩
      exact ⟨j, ⟨⟨by omega, by omega⟩, hpj⟩, hj⟩
  have hstep : s.takenPath p waits count (i + 1) = u.loseFan i .unpowered none (!later && waits) :=
    (if_pos hp).trans (if_pos htaken)
  rw [hstep]
  have hreported := (u.holdFan i .unpowered none).sendReport_reported i (!later && waits)
  refine ⟨_, u.holdFan_held i .unpowered none rfl, fun h => ?_, fun h => ?_⟩
  · exact hreported.taken (.inl (by simp [hlater.mpr h]))
  · have hnone : later = false := by
      rw [Bool.eq_false_iff]
      intro hl
      obtain ⟨j, h1, h2, hj⟩ := hlater.mp hl
      exact h j h1 h2 hj
    rw [hnone, Bool.not_false, Bool.true_and] at hreported ⊢
    exact hreported

/-- Any other fan is passed over. -/
theorem State.takenPath_passed (p : Nat → Bool) (waits : Bool) {count : Nat} (s : State) {i : Nat}
    (h : ¬ (p i = true ∧ ((s.takenPath p waits count i).fan i).state.losesPower = true)) :
    s.takenPath p waits count (i + 1) = s.takenPath p waits count i := by
  by_cases hp : p i = true
  · exact (if_pos hp).trans (if_neg fun hl => h ⟨hp, hl⟩)
  · exact if_neg hp

/-! ### The feeder dies -/

theorem EventLatch.reportFeederHold_grows (e : EventLatch) (b : Bool) (n : Nat) (h : e.set.getLsbD n = true) :
    (e.reportFeederHold b).set.getLsbD n = true :=
  ite_keeps (P := fun e' : EventLatch => e'.set.getLsbD n = true) (EventLatch.latch_grows _ _ n h) h

theorem EventLatch.reportFeederDead_grows (e : EventLatch) (b : Bool) (n : Nat) (h : e.set.getLsbD n = true) :
    (e.reportFeederDead b).set.getLsbD n = true :=
  ite_keeps (P := fun e' : EventLatch => e'.set.getLsbD n = true) (EventLatch.latch_grows _ _ n h) h

/-- Feeder `n` with its record DEAD and its settle timer discarded (R127). -/
def State.diedFeeders (s : State) (n : Nat) : List Feeder :=
  s.feeders.modify n (fun g => { g with state := .dead, settleTimer := none })

/-- The state in which the fans of a feeder that has just died are taken: AVAIL recorded, the feeder DEAD, the two feeder
conditions taken afresh (R127, R136). -/
def State.atDeath (s : State) (n : Nat) : State :=
  State.moveFeeder (s.modifyInputs n (fun x => { x with avail := false })).nextFree n .dead

theorem State.atDeath_feeders (s : State) (n : Nat) : (s.atDeath n).feeders = s.diedFeeders n := rfl

theorem State.atDeath_levels (s : State) (n : Nat) : s.events.FeederLevels (s.diedFeeders n) (s.atDeath n).events :=
  State.refreshFeederLevels_taken { s with feeders := s.diedFeeders n }

theorem State.diedFeeders_any (s : State) (n : Nat) {g : Feeder} (hg : s.feeders[n]? = some g) :
    (s.diedFeeders n).any (fun g => decide (g.state = .dead)) = true := by
  refine List.any_eq_true.mpr ⟨{ g with state := .dead, settleTimer := none }, ?_, by simp⟩
  refine List.mem_of_getElem? (i := n) ?_
  rw [State.diedFeeders, List.getElem?_modify_eq, hg]
  rfl

/-- The death of the feeder itself, before a fan is taken. -/
theorem State.FieldWork.atDeath (s : State) (n : Nat) {g : Feeder} (hg : s.feeders[n]? = some g) (rs : List Nat) :
    State.FieldWork { s.nextFree with
      line := { s.line with reports := rs }
      feeders := s.diedFeeders n
      feederInputs := s.feederInputs.modify n (fun x => { x with avail := false })
      events := { s.events with levels := { s.events.levels with
        feederHold := (s.diedFeeders n).any (fun g => decide (g.state = .hold ∨ g.state = .settling))
        feederDead := true } } }
      { s.atDeath n with line := { (s.atDeath n).line with reports := rs } } := by
  have hlevels := s.atDeath_levels n
  refine { State.FieldWork.refl { s.atDeath n with line := { (s.atDeath n).line with reports := rs } } with
    mask := hlevels.mask
    levels := ?_
    grows := fun k hk => EventLatch.reportFeederDead_grows _ _ k (EventLatch.reportFeederHold_grows _ _ k hk) }
  have hdead := s.diedFeeders_any n hg
  change { (s.atDeath n).events.levels with shortfall := false } = _
  rw [hlevels.levels, hdead]

/-- The state after the fans have been taken. -/
def State.afterDeath (s : State) (n : Nat) : State :=
  (s.atDeath n).losePowers s.reportWaits ((s.atDeath n).fansOf n)

theorem exec_availInactive (s : State) (n : Fin 4) (havail : (s.inputs n).avail = true) {g : Feeder}
    (hg : s.feeders[n.val]? = some g) (hlive : g.state ≠ .dead) :
    exec (.availInactive n) s = .next (s.afterDeath n).settle := by
  have hstate : (s.modifyInputs n (fun x => { x with avail := false })).feederState n = some g.state := by
    change (s.feeders[n.val]?).map (fun f => f.state) = some g.state
    rw [hg]
    rfl
  refine (if_neg (by simp [havail])).trans ?_
  rw [hstate]
  cases hs : g.state with
  | dead => exact absurd hs hlive
  | hold => rfl
  | settling => rfl
  | ready => rfl

theorem exec_availInactive_dead (s : State) (n : Fin 4) (havail : (s.inputs n).avail = true)
    (h : s.feederState n = none ∨ s.feederState n = some .dead) : exec (.availInactive n) s =
      .next { s with feederInputs := s.feederInputs.modify n (fun x => { x with avail := false }) } := by
  refine (if_neg (by simp [havail])).trans ?_
  have hsame : (s.modifyInputs n (fun x => { x with avail := false })).feederState n = s.feederState n := rfl
  rw [hsame]
  rcases h with h | h <;> rw [h] <;> rfl

/-- Feeder `n` is that of fan `i`. -/
def State.feeds (s : State) (n : Nat) (i : Nat) : Bool := decide (s.feederOf i = some n)

theorem State.afterDeath_eq (s : State) (n : Nat) : s.afterDeath n =
    (s.atDeath n).takenPath (s.feeds n) s.reportWaits s.fanCount s.fanCount := by
  have h := State.losePowers_takenPath (s.feeds n) s.reportWaits s.fanCount (s.atDeath n) s.fanCount 0 (Nat.zero_add _)
  rw [← List.range_eq_range'] at h
  exact h

/-- FEEDER_DEAD becomes true (R136). -/
theorem State.atDeath_shows (s : State) (n : Nat) {g : Feeder} (hg : s.feeders[n]? = some g)
    (hd : s.events.levels.feederDead = false) : (s.atDeath n).events.Shows .feederDead := by
  have hlevels := s.atDeath_levels n
  intro hmask
  rw [hlevels.mask] at hmask
  rw [hlevels.dead, hlevels.levels, s.diedFeeders_any n hg, hmask, hd]
  simp

/-- What the death makes of each fan of the feeder. -/
theorem State.afterDeath_fan (s : State) (n : Nat) {i : Nat} (hi : i < s.fanCount) (hfeeds : s.feederOf i = some n) :
    ((s.fan i).state.losesPower = true →
      ((s.afterDeath n).fan i).state = .unpowered ∧ ((s.afterDeath n).fan i).run = false ∧
        ((s.afterDeath n).isMember i = false ∨
          s.reportWaits = true ∧ (s.afterDeath n).line.reports = s.line.reports ++ [i])) ∧
    ((s.fan i).state.losesPower = false →
      ((s.afterDeath n).fan i).state = (s.fan i).state ∧ ((s.afterDeath n).fan i).run = (s.fan i).run) := by
  have hmem : i ∈ (s.atDeath n).fansOf n := List.mem_filter.mpr ⟨List.mem_range.mpr hi, decide_eq_true hfeeds⟩
  exact ⟨State.losePowers_takes s.reportWaits _ (s.atDeath n) (List.nodup_range.filter _) hmem hi,
    State.losePowers_keeps s.reportWaits _ (s.atDeath n)⟩

/-- Settles O49: the feeder's own death, then its fans along the chain of states that takes them one by one. -/
theorem deadFeederTakesItsFans : Obligations.DeadFeederTakesItsFans := by
  intro s n hask havail
  refine ⟨fun g hg hlive => ⟨_, exec_availInactive s n havail hg hlive, ?_⟩, exec_availInactive_dead s n havail⟩
  have hbut : (s.atDeath n).WorkBut (s.afterDeath n) := State.WorkBut.losePowers s.reportWaits _ _
  have hlevels := s.atDeath_levels n
  refine ⟨?_, fun hw => ?_, fun hd => ?_, ?_, fun i hi hfeeds => ?_,
    (s.atDeath n).takenPath (s.feeds n) s.reportWaits s.fanCount, rfl, rfl, rfl, s.atDeath_feeders n, hlevels,
    fun i hi => ?_, ?_⟩
  · exact ((State.FieldWork.atDeath s n hg _).trans hbut).trans (State.FieldWork.settle _)
  · have hwork : State.FieldWork (s.atDeath n) (s.afterDeath n) := by
      rw [State.afterDeath, hw]
      exact State.FieldWork.losePowers _ _
    exact hwork.reports
  · exact hbut.shows (s.atDeath_shows n hg hd)
  · have hsends := State.settle_sends (s.afterDeath n)
    rwa [State.afterDeath, State.losePowers_link] at hsends
  · obtain ⟨htakes, hkeeps⟩ := s.afterDeath_fan n hi hfeeds
    refine ⟨fun h => htakes ((FanState.losesPower_iff _).mpr h), fun h => hkeeps ?_⟩
    rcases h with h | h | h <;> rw [h] <;> rfl
  · have hiff : ∀ j, (s.feederOf j = some n.val ∧ ((((s.atDeath n).takenPath (s.feeds n) s.reportWaits s.fanCount
        i).fan j).state.isWorking = true ∨ (((s.atDeath n).takenPath (s.feeds n) s.reportWaits s.fanCount
        i).fan j).state = .tripped)) ↔ s.feeds n j = true ∧ (((s.atDeath n).takenPath (s.feeds n) s.reportWaits
        s.fanCount i).fan j).state.losesPower = true := fun j => by
      rw [FanState.losesPower_iff, State.feeds, decide_eq_true_iff]
    dsimp only
    simp only [hiff]
    refine ⟨fun ⟨hfeeds, htaken⟩ => ?_, State.takenPath_passed _ _ _⟩
    exact State.takenPath_taken _ _ _ hfeeds htaken
  · rw [← State.afterDeath_eq]
    exact ⟨rfl, rfl, rfl, rfl, rfl, rfl⟩

end Sys2Proof.Machine
end

section
/-! An idle step (R69, R77, R103, R126, R144, R169): the commands that a second brings, what it makes of the timers, and the
statement. -/

namespace Sys2Proof.Machine

/-! ### The commands that a second brings -/

theorem mem_startExpiry (c : Instr) (i : Fin 64) (x : FanState) : c ∈ startExpiry i x ↔
    c = .rampTimerExpiry i ∧ (∃ d, x = .starting d (.ramp 1)) ∨
      c = .confirmTimerExpiry i ∧ ∃ d, x = .starting d (.confirm 1) := by
  unfold startExpiry
  split
  · simp
  · simp
  next hramp hconfirm =>
    simp only [List.not_mem_nil, false_iff, not_or, not_and, not_exists]
    exact ⟨fun _ d hd => hramp d hd, fun _ d hd => hconfirm d hd⟩

@[simp] theorem State.mem_fanExpiries (s : State) (c : Instr) (i : Fin 64) : c ∈ s.fanExpiries i ↔ i.val < s.fanCount ∧
    (c = .coastTimerExpiry i ∧ (s.fan i).coastTimer + 1 = s.coastTime i ∨
      c = .rampTimerExpiry i ∧ (∃ d, (s.fan i).state = .starting d (.ramp 1)) ∨
      c = .confirmTimerExpiry i ∧ (∃ d, (s.fan i).state = .starting d (.confirm 1)) ∨
      c = .stuckRunningTimerExpiry i ∧ (s.fan i).stuckTimer = some 1) := by
  have hone : ∀ (p : Prop) [Decidable p] (x : Instr), c ∈ (if p then [x] else []) ↔ c = x ∧ p := by
    intro p _ x
    split <;> simp_all
  unfold State.fanExpiries
  split
  next hi => simp only [List.mem_append, hone, mem_startExpiry, hi, true_and, or_assoc]
  next hi => simp [hi]

@[simp] theorem State.mem_feederExpiries (s : State) (c : Instr) (n : Fin 4) : c ∈ s.feederExpiries n ↔
    c = .settleTimerExpiry n ∧ ∃ f, s.feeders[n.val]? = some f ∧ f.settleTimer = some 1 := by
  unfold State.feederExpiries
  split
  next f hf => split <;> simp_all
  next hf => simp [hf]

@[simp] theorem State.mem_watchdogExpiries (s : State) (c : Instr) : c ∈ s.watchdogExpiries ↔
    c = .linkTimeout ∧ ∃ n, s.link.watchdog = .counting n ∧ n + 1 = s.linkTimeout := by
  unfold State.watchdogExpiries
  split
  next n hn => split <;> simp_all
  next hn => simp [hn]
  next hn => simp [hn]

@[simp] theorem State.mem_windowExpiries (s : State) (c : Instr) : c ∈ s.windowExpiries ↔
    c = .windowEnd s.sampledHealth ∧ ∃ n, s.air.windowTimer = some n ∧ n + 1 = s.windowSeconds := by
  unfold State.windowExpiries
  split
  next n hn => split <;> simp_all
  next hn => simp [hn]

theorem State.mem_gapExpiries {s : State} {c : Instr} (h : c ∈ s.gapExpiries) : c = .frameGapTimeout := by
  unfold State.gapExpiries at h
  split at h
  · cases h
  · exact List.mem_singleton.mp h
  · exact List.mem_singleton.mp h

/-- The commands of a second, but for those of the frames on the line (R160, R165). -/
theorem State.mem_expiries (s : State) {c : Instr} (hsent : c ≠ .frameSent) (hgap : c ≠ .frameGapTimeout) :
    c ∈ s.expiries ↔ (∃ i, c ∈ s.fanExpiries i) ∨ (∃ n, c ∈ s.feederExpiries n) ∨ c ∈ s.watchdogExpiries ∨
      c ∈ s.windowExpiries := by
  have hg : ¬ c ∈ s.gapExpiries := fun h => hgap (State.mem_gapExpiries h)
  simp [State.expiries, List.mem_replicate, hsent, hg]

section
variable (s : State) (i : Fin 64) (hi : i.val < s.fanCount)
include hi

theorem State.coastTimerExpiry_mem : Instr.coastTimerExpiry i ∈ s.expiries ↔
    (s.fan i).coastTimer + 1 = s.coastTime i := by
  simp [s.mem_expiries, hi]

theorem State.rampTimerExpiry_mem : Instr.rampTimerExpiry i ∈ s.expiries ↔
    ∃ d, (s.fan i).state = .starting d (.ramp 1) := by
  simp [s.mem_expiries, hi]

theorem State.confirmTimerExpiry_mem : Instr.confirmTimerExpiry i ∈ s.expiries ↔
    ∃ d, (s.fan i).state = .starting d (.confirm 1) := by
  simp [s.mem_expiries, hi]

theorem State.stuckRunningTimerExpiry_mem : Instr.stuckRunningTimerExpiry i ∈ s.expiries ↔
    (s.fan i).stuckTimer = some 1 := by
  simp [s.mem_expiries, hi]

end

theorem State.settleTimerExpiry_mem (s : State) (n : Fin 4) {f : Feeder} (hf : s.feeders[n.val]? = some f) :
    Instr.settleTimerExpiry n ∈ s.expiries ↔ f.settleTimer = some 1 := by
  simp [s.mem_expiries, hf]

theorem State.windowEnd_mem (s : State) {n : Nat} (hn : s.air.windowTimer = some n) :
    (∃ h, Instr.windowEnd h ∈ s.expiries) ↔ n + 1 = s.windowSeconds := by
  simp [s.mem_expiries, hn]

theorem State.linkTimeout_mem (s : State) {n : Nat} (hn : s.link.watchdog = .counting n) :
    Instr.linkTimeout ∈ s.expiries ↔ n + 1 = s.linkTimeout := by
  simp [s.mem_expiries, hn]

/-! ### The step -/

/-- What a second makes of a fan's state: a start's timer counts, and nothing else moves (R98, R99). -/
theorem FanState.tick_spec (x : FanState) :
    (∀ d n, x = .starting d (.ramp n) → x.tick = .starting d (.ramp (n - 1))) ∧
    (∀ d n, x = .starting d (.confirm n) → x.tick = .starting d (.confirm (n - 1))) ∧
    ((∀ d p, x ≠ .starting d p) → x.tick = x) := by
  refine ⟨?_, ?_, fun h => ?_⟩
  · rintro d n rfl
    rfl
  · rintro d n rfl
    rfl
  · cases x with
    | starting d p => exact absurd rfl (h d p)
    | idle | queued | running d | coasting | tripped | failed | isolated | unpowered => rfl

theorem State.step_idle {s : State} (h : s.pending = []) : step s = .next s.idle := by
  unfold step
  rw [h]

/-- An idle step that takes a report (R69). -/
theorem State.idle_report {s : State} {i : Nat} {rest : List Nat} (h : s.line.reports = i :: rest) :
    s.idle = s.takeReport.settle := if_pos (by simp [h])

/-- An idle step that queues a boundary (R77). -/
theorem State.idle_boundary {s : State} (h : s.line.reports = [])
    (hdue : s.line.boundaryDue ≠ none ∨ s.line.overtaken = true) :
    s.idle = { s with pending := [.controlPeriodBoundary] } := by
  refine (if_neg (by simp [h])).trans (if_pos ?_)
  rwa [Bool.or_eq_true, Option.isSome_iff_ne_none]

/-- An idle step in which a second passes. -/
theorem State.idle_second {s : State} (h : s.line.reports = []) (hdue : s.line.boundaryDue = none)
    (hover : s.line.overtaken = false) : s.idle = { s.secondPassed with
      pending := s.expiries
      freeIndex := if s.windowExpiries.isEmpty then s.freeIndex else s.freeIndex + 1 } :=
  (if_neg (by simp [h])).trans (if_neg (by simp [hdue, hover]))

theorem State.takeReport_link (s : State) : s.takeReport.link = s.link := by
  unfold State.takeReport
  split
  · exact State.reportLoss_link _ _
  · rfl

/-- Settles O2: the three cases of an idle step, the last by what a second makes of each timer and which commands it
brings. -/
theorem idleStepPassesOneSecond : Obligations.IdleStepPassesOneSecond := by
  intro s hpending
  refine ⟨fun i rest hr => ?_, fun hr hdue => ?_, fun hr hdue hover => ?_⟩
  · refine ⟨s.takeReport.settle, ?_, ?_, ?_, ?_⟩
    · rw [State.step_idle hpending, State.idle_report hr]
    · exact (s.takeReport_taken i rest hr).work.pending.trans hpending
    · have hsends := State.settle_sends s.takeReport
      rwa [State.takeReport_link] at hsends
    · exact (s.takeReport_taken i rest hr).settle
  · rw [State.step_idle hpending, State.idle_boundary hr hdue]
  · refine ⟨_, (State.step_idle hpending).trans (congrArg _ (State.idle_second hr hdue hover)), rfl, rfl, rfl, rfl, rfl,
      ?_, rfl, rfl, rfl, rfl, fun i hi => ⟨(s.fan i).state.tick, ?_, (s.fan i).state.tick_spec⟩,
      fun i hi => ⟨s.coastTimerExpiry_mem i hi, s.rampTimerExpiry_mem i hi, s.confirmTimerExpiry_mem i hi,
        s.stuckRunningTimerExpiry_mem i hi⟩,
      fun n f hf => s.settleTimerExpiry_mem n hf, fun n hn => ⟨?_, s.windowEnd_mem hn⟩,
      fun n hn => ⟨?_, s.linkTimeout_mem hn⟩, fun h => ?_⟩
    · exact List.length_map ..
    · exact (s.secondPassed_fan i).trans (if_pos hi)
    · exact congrArg (Option.map (fun n => n + 1)) hn
    · exact congrArg Watchdog.tick hn
    · change s.link.watchdog.tick = s.link.watchdog
      rcases h with h | h <;> rw [h] <;> rfl

end Sys2Proof.Machine
end

section
/-! What an evaluation moves (R53, R54, R57, R60 to R65): writing demands reads the fans and the feeders alone, so that the
joins and departures of an evaluation, one after another, are its demands written in the same order. -/

namespace Sys2Proof.Machine

/-! ### Writing demands under another line -/

/-- The state with another line record and another event latch. -/
def State.over (s : State) (l : LineController) (e : EventLatch) : State := { s with line := l, events := e }

section
variable (s : State) (l : LineController) (e : EventLatch)

theorem State.onFeederOf_over (i : Nat) (f : Feeder → Feeder) :
    (s.over l e).onFeederOf i f = (s.onFeederOf i f).over l e := by
  change (match s.feederOf i with | some n => (s.over l e).modifyFeeder n f | none => s.over l e) = _
  unfold State.onFeederOf
  cases s.feederOf i <;> rfl

theorem State.grantHead_over (n : Nat) : (s.over l e).grantHead n = (s.grantHead n).over l e := by
  unfold State.grantHead
  have hfeeders : (s.over l e).feeders = s.feeders := rfl
  rw [hfeeders]
  split
  · rfl
  · split <;> rfl

theorem State.grantLoop_over (k : Nat) (n : Nat) : grantLoop k (s.over l e) n = (grantLoop k s n).over l e := by
  induction k generalizing s with
  | zero => rfl
  | succ k ih =>
    have hcan : (s.over l e).canGrant n = s.canGrant n := rfl
    unfold grantLoop
    rw [hcan]
    split
    · rw [State.grantHead_over, ih]
    · rfl

theorem State.considerGrantFor_over (i : Nat) : (s.over l e).considerGrantFor i = (s.considerGrantFor i).over l e := by
  change (match s.feederOf i with | some n => grantLoop (s.slots n) (s.over l e) n | none => s.over l e) = _
  unfold State.considerGrantFor
  cases s.feederOf i with
  | none => rfl
  | some n => exact s.grantLoop_over l e _ n

theorem State.freeSlot_over (i : Nat) : (s.over l e).freeSlot i = (s.freeSlot i).over l e := by
  unfold State.freeSlot
  rw [State.onFeederOf_over, State.considerGrantFor_over]

theorem State.enterQueued_over (i : Nat) (d : Direction) (c : DemandClass) :
    (s.over l e).enterQueued i d c = (s.enterQueued i d c).over l e := by
  have hqueued : (s.over l e).modifyFan i (fun f => { f with state := .queued }) =
      (s.modifyFan i (fun f => { f with state := .queued })).over l e := rfl
  unfold State.enterQueued State.requestStart
  rw [hqueued, State.onFeederOf_over, State.considerGrantFor_over]

theorem State.abandonStart_over (i : Nat) : (s.over l e).abandonStart i = (s.abandonStart i).over l e :=
  (s.toCoasting i).freeSlot_over l e i

theorem State.actOnDemand_over (i : Nat) (d : Demand) :
    (s.over l e).actOnDemand i d = (s.actOnDemand i d).over l e := by
  have hfan : (s.over l e).fan i = s.fan i := rfl
  unfold State.actOnDemand
  rw [hfan]
  split
  · exact s.enterQueued_over l e i _ _
  · unfold State.leaveQueue
    rw [State.onFeederOf_over]
    rfl
  · exact s.onFeederOf_over l e i _
  · exact s.abandonStart_over l e i
  · split
    · rfl
    · exact s.abandonStart_over l e i
  · rfl
  · split <;> rfl
  · rfl

/-- Writing a demand reads and changes nothing of the line and of the event latch (R95). -/
theorem State.writeDemand_over (i : Nat) (d : Demand) : (s.over l e).writeDemand i d = (s.writeDemand i d).over l e := by
  have hfan : (s.over l e).fan i = s.fan i := rfl
  have hstored : (s.over l e).modifyFan i (fun f => { f with demand := d }) =
      (s.modifyFan i (fun f => { f with demand := d })).over l e := rfl
  unfold State.writeDemand
  rw [hfan, hstored, State.actOnDemand_over]
  split <;> rfl

end

/-! ### Demands written one after another -/

/-- The demands of a list written, one after another. -/
def State.writeAll (s : State) (ps : List (Nat × Demand)) : State := ps.foldl (fun u p => u.writeDemand p.1 p.2) s

theorem State.writeAll_append (s : State) (ps qs : List (Nat × Demand)) :
    s.writeAll (ps ++ qs) = (s.writeAll ps).writeAll qs := List.foldl_append

theorem State.writeAll_written (ps : List (Nat × Demand)) (s : State) : State.DemandsWritten ps s (s.writeAll ps) := by
  induction ps generalizing s with
  | nil => rfl
  | cons p ps ih => exact ⟨_, s.writeDemand_written p.1 p.2, ih _⟩

theorem State.writeAll_over (ps : List (Nat × Demand)) (s : State) (l : LineController) (e : EventLatch) :
    (s.over l e).writeAll ps = (s.writeAll ps).over l e := by
  induction ps generalizing s with
  | nil => rfl
  | cons p ps ih =>
    refine Eq.trans ?_ (ih (s.writeDemand p.1 p.2))
    exact congrArg (fun u : State => u.writeAll ps) (s.writeDemand_over l e p.1 p.2)

theorem State.writeAll_fanCount (ps : List (Nat × Demand)) (s : State) : (s.writeAll ps).fanCount = s.fanCount := by
  induction ps generalizing s with
  | nil => rfl
  | cons p ps ih => exact (ih _).trans (State.FieldWork.writeDemand s p.1 p.2).fanCount

/-- A fan to which nothing is written keeps its demand. -/
theorem State.writeAll_demand_of_not_mem (ps : List (Nat × Demand)) (s : State) (i : Nat)
    (h : i ∉ ps.map (fun p => p.1)) : ((s.writeAll ps).fan i).demand = (s.fan i).demand := by
  induction ps generalizing s with
  | nil => rfl
  | cons p ps ih =>
    rw [List.map_cons, List.mem_cons, not_or] at h
    exact (ih _ h.2).trans (s.writeDemand_demand_ne p.1 i p.2 h.1)

/-- A fan to which one demand alone is written, however often, holds it. -/
theorem State.writeAll_demand_of_mem (ps : List (Nat × Demand)) (s : State) {i : Nat} {d : Demand} (hi : i < s.fanCount)
    (hd : ∀ p ∈ ps, p.1 = i → p.2 = d) (h : i ∈ ps.map (fun p => p.1)) : ((s.writeAll ps).fan i).demand = d := by
  induction ps generalizing s with
  | nil => cases h
  | cons p ps ih =>
    have hcount : i < (s.writeDemand p.1 p.2).fanCount := by
      rw [State.fanCount, (State.FieldWork.writeDemand s p.1 p.2).fanCount]
      exact hi
    by_cases hmem : i ∈ ps.map (fun p => p.1)
    · exact ih _ hcount (fun q hq => hd q (List.mem_cons_of_mem _ hq)) hmem
    · have hp : p.1 = i := by
        rw [List.map_cons, List.mem_cons] at h
        exact (h.resolve_right hmem).symm
      refine (State.writeAll_demand_of_not_mem ps (s.writeDemand p.1 p.2) i hmem).trans ?_
      rw [hp]
      exact (s.writeDemand_demand i p.2 hi).trans (hd p List.mem_cons_self hp)

/-! ### Joins and departures -/

/-- From `s` to `t` fans have joined or left the duty set, and in their order the demands `ps` have been written and no
others; any of them sets membership changed and raises DUTY_CHANGE (R53, R54, R65). -/
structure State.Moved (ps : List (Nat × Demand)) (s t : State) : Prop where
  written : t = (s.writeAll ps).over t.line t.events
  changed : t.line.scenario.map Scenario.membershipChanged =
    s.line.scenario.map (fun sc => sc.membershipChanged || !ps.isEmpty)
  shows : ps ≠ [] → t.events.Shows .dutyChange
  work : State.FieldWork s t

namespace State.Moved

theorem trans {ps qs : List (Nat × Demand)} {s t u : State} (a : State.Moved ps s t) (b : State.Moved qs t u) :
    State.Moved (ps ++ qs) s u where
  written := by
    have ha : t.writeAll qs = ((s.writeAll ps).writeAll qs).over t.line t.events := by
      conv_lhs => rw [a.written]
      exact State.writeAll_over qs _ _ _
    rw [State.writeAll_append]
    conv_lhs => rw [b.written, ha]
    rfl
  changed := by
    have hmap := congrArg (Option.map (fun b => b || !qs.isEmpty)) a.changed
    rw [Option.map_map, Option.map_map] at hmap
    refine b.changed.trans (hmap.trans ?_)
    congr 1
    funext sc
    cases ps <;> cases qs <;> simp
  shows h := by
    by_cases hq : qs = []
    · rw [hq, List.append_nil] at h
      exact b.work.shows (a.shows h)
    · exact b.shows hq
  work := a.work.trans b.work

theorem still {s t : State} (hwritten : t = s.over t.line t.events)
    (hchanged : t.line.scenario.map Scenario.membershipChanged = s.line.scenario.map Scenario.membershipChanged)
    (hwork : State.FieldWork s t) : State.Moved [] s t :=
  ⟨hwritten, by simpa using hchanged, fun h => absurd rfl h, hwork⟩

theorem refl (s : State) : State.Moved [] s s := still rfl rfl (State.FieldWork.refl s)

theorem setDuty (s : State) (d : List Member) : State.Moved [] s (s.setDuty d) :=
  still rfl rfl (State.FieldWork.setDuty s d)

theorem modifyScenario (s : State) (f : Scenario → Scenario) (hcore : ∀ sc, (f sc).core = sc.core)
    (hf : ∀ sc, (f sc).membershipChanged = sc.membershipChanged) : State.Moved [] s (s.modifyScenario f) := by
  refine still rfl ?_ (State.FieldWork.modifyScenario s f hcore)
  cases hs : s.line.scenario <;> simp [hs, hf]

theorem refreshShortfall (s : State) : State.Moved [] s s.refreshShortfall :=
  still rfl rfl (State.FieldWork.refreshShortfall s)

/-- A change of the duty set with its demand. -/
theorem change (s : State) (duty : List Member) (i : Nat) (d : Demand)
    (hwork : State.FieldWork s ((((s.setDuty duty).modifyScenario (fun sc => { sc with membershipChanged := true })).raise
      .dutyChange).writeDemand i d)) :
    State.Moved [(i, d)] s ((((s.setDuty duty).modifyScenario (fun sc => { sc with membershipChanged := true })).raise
      .dutyChange).writeDemand i d) := by
  set u := ((s.setDuty duty).modifyScenario (fun sc => { sc with membershipChanged := true })).raise .dutyChange with hu
  have hover : u = s.over u.line u.events := rfl
  obtain ⟨hline, hevents, -⟩ := u.writeDemand_rest i d
  refine ⟨?_, ?_, fun _ => ?_, hwork⟩
  · rw [hline, hevents]
    conv_lhs => rw [hover]
    exact s.writeDemand_over _ _ i d
  · rw [hline]
    cases hs : s.line.scenario <;> simp [hu, hs]
  · rw [hevents]
    exact EventLatch.raise_shows _ _

theorem joinMember (s : State) (d : Direction) (i : Nat) (r : JoinReason) (n : Nat) :
    State.Moved [(i, .run d .urgent)] s (s.joinMember d i r n) :=
  change s _ i _ (State.FieldWork.joinMember s d i r n)

theorem removeMember (s : State) (i : Nat) : State.Moved [(i, .none)] s (s.removeMember i) :=
  change s _ i _ (State.FieldWork.removeMember s i)

theorem along {op : State → Nat → State} {d : Demand} (h : ∀ s i, State.Moved [(i, d)] s (op s i)) (s : State)
    (l : List Nat) : State.Moved (l.map (fun i => (i, d))) s (forEach op s l) := by
  induction l generalizing s with
  | nil => exact refl s
  | cons i is ih => exact (h s i).trans (ih (op s i))

end State.Moved

end Sys2Proof.Machine
end

section
/-! The stages of an evaluation in the terms of the duty set's fans and reasons (R57 to R64): the lost swept, the joins of
stages 4, 5 and 7 with the demands they write, the shortest start that meets the need, the releases. -/

namespace Sys2Proof.Machine

/-! ### Fans and reasons -/

/-- The fan and the reason of a member record. -/
def Member.entry (x : Member) : Nat × JoinReason := (x.fan, x.reason)

/-- The member record of a fan with a reason, in the figures in effect (R29, R53). -/
def State.memberAt (s : State) (sc : Scenario) (p : Nat × JoinReason) : Member := s.memberOf sc p.2 p.1

/-- The entries whose fans are not expired. -/
def State.live (s : State) (l : List (Nat × JoinReason)) : List (Nat × JoinReason) :=
  l.filter (fun x => !(s.fan x.1).expired)

/-- The counted thrust of a list of fans (R29). -/
def State.thrustOf (s : State) (sc : Scenario) (l : List Nat) : Nat := (l.map (fun i => s.countedFor sc i)).sum

section
variable (s : State) (sc : Scenario)

theorem State.map_entry_memberAt (l : List (Nat × JoinReason)) : (l.map (s.memberAt sc)).map Member.entry = l := by
  rw [List.map_map]
  exact List.map_id l

theorem State.map_fan_memberAt (l : List (Nat × JoinReason)) :
    (l.map (s.memberAt sc)).map (fun x => x.fan) = l.map (fun x => x.1) := by
  rw [List.map_map]
  rfl

theorem State.nonExpired_memberAt (l : List (Nat × JoinReason)) :
    nonExpired (l.map (s.memberAt sc)) = (s.live l).map (s.memberAt sc) := by
  rw [nonExpired, State.live, List.filter_map]
  rfl

theorem State.countedSum_memberAt (l : List (Nat × JoinReason)) :
    countedSum (l.map (s.memberAt sc)) = s.thrustOf sc (l.map (fun x => x.1)) := by
  rw [countedSum, State.thrustOf, List.map_map, List.map_map]
  rfl

theorem State.live_append (l l' : List (Nat × JoinReason)) : s.live (l ++ l') = s.live l ++ s.live l' :=
  List.filter_append ..

/-- Fans that are not expired all count, whatever they join for. -/
theorem State.live_joined (l : List Nat) (r : JoinReason) (h : ∀ i ∈ l, (s.fan i).expired = false) :
    s.live (l.map (fun i => (i, r))) = l.map (fun i => (i, r)) := by
  refine List.filter_eq_self.mpr fun x hx => ?_
  obtain ⟨i, hi, rfl⟩ := List.mem_map.mp hx
  simp [h i hi]

theorem State.thrustOf_append (l l' : List Nat) : s.thrustOf sc (l ++ l') = s.thrustOf sc l + s.thrustOf sc l' := by
  simp [State.thrustOf]

theorem State.thrustOf_le {l l' : List Nat} (h : l.Sublist l') : s.thrustOf sc l ≤ s.thrustOf sc l' :=
  (h.map _).sum_le_sum fun _ _ => Nat.zero_le _

end

section
variable {s t : State} (h : s.SameFigures t) (sc : Scenario)
include h

theorem State.SameFigures.memberAt : t.memberAt sc = s.memberAt sc := by
  funext p
  exact congrFun (h.memberOf sc p.2) p.1

theorem State.SameFigures.live (l : List (Nat × JoinReason)) : t.live l = s.live l := by
  simp only [State.live, h.expired]

theorem State.SameFigures.thrustOf (l : List Nat) : t.thrustOf sc l = s.thrustOf sc l := by
  simp only [State.thrustOf, h.countedFor]

end

/-! ### Stages 1 to 4 -/

/-- The usable members of the duty set, in join order (R57). -/
def State.sweptEntries (s : State) : List (Nat × JoinReason) :=
  (s.line.duty.map Member.entry).filter (fun x => (s.fan x.1).state.isWorking)

/-- The fans of the members lost, in join order (R57). -/
def State.lostFans (s : State) : List Nat :=
  ((s.line.duty.map Member.entry).filter (fun x => !(s.fan x.1).state.isWorking)).map (fun x => x.1)

theorem State.prepared_entries (s : State) (sc : Scenario) :
    (s.prepared sc).line.duty = s.sweptEntries.map (s.memberAt sc) := by
  rw [State.prepared_duty, State.sweptEntries, List.filter_map, List.map_map]
  rfl

/-- Stages 1 to 3 write NONE to the lost members, in join order, and no other demand (R54, R57). -/
theorem State.Moved.prepared (s : State) (sc : Scenario) :
    State.Moved (s.lostFans.map (fun i => (i, .none))) s (s.prepared sc) := by
  set u := s.modifyScenario (fun x => { x with required := s.requiredFor sc })
  have hlost : s.lostFans = (u.line.duty.filter (fun m => (u.fan m.fan).state.isHolding)).map (fun m => m.fan) := by
    rw [State.lostFans, List.filter_map, List.map_map]
    rfl
  have hswept : State.Moved (s.lostFans.map (fun i => (i, .none))) u u.sweep := by
    rw [hlost]
    exact State.Moved.along State.Moved.removeMember u _
  have hrecomputed : State.Moved [] u.sweep (s.prepared sc) := State.Moved.setDuty u.sweep _
  have hmoved := ((State.Moved.modifyScenario s (fun x => { x with required := s.requiredFor sc }) (fun _ => rfl)
    fun _ => rfl).trans hswept).trans hrecomputed
  rwa [List.nil_append, List.append_nil] at hmoved

/-- Who was a candidate before stages 1 to 3 is one after them, and nobody else: the lost are not usable (R55). -/
theorem State.prepared_candidates (s : State) (sc : Scenario) : (s.prepared sc).candidates sc = s.candidates sc := by
  have hfigures := s.prepared_figures sc
  obtain ⟨-, -, -, -, -, -, -, -, -, hchainage, -⟩ := State.statics_congr hfigures.image
  refine List.filter_congr fun i _ => ?_
  have hmember := s.prepared_isMember sc i
  unfold State.isCandidate State.fanExcluded
  rw [hfigures.fanCount, hchainage, hfigures.expired, hfigures.working]
  cases hw : (s.fan i).state.isWorking
  · simp
  · rw [hw] at hmember
    have : (s.prepared sc).isMember i = s.isMember i := by
      rw [Bool.eq_iff_iff, hmember]
      simp
    rw [this]

theorem State.Moved.joinAll (sc : Scenario) (s : State) (l : List Nat) :
    State.Moved (l.map (fun i => (i, .run sc.direction .urgent))) s (joinAll sc s l) :=
  State.Moved.along (fun u i => State.Moved.joinMember u _ i _ _) s l

/-! ### Stage 5 -/

/-- Every join of stage 5 comes while the figures fall short of the requirement (R60). -/
theorem joinNeeded_moved (sc : Scenario) (required : Nat) (s : State) (sum : Nat) (l : List Nat) :
    ∃ joined, l = joined ++ (joinNeeded sc required s sum l).2.2 ∧
      State.Moved (joined.map (fun i => (i, .run sc.direction .urgent))) s (joinNeeded sc required s sum l).1 ∧
      (joined ≠ [] → sum + s.thrustOf sc joined.dropLast < required) := by
  induction l generalizing s sum with
  | nil => exact ⟨[], rfl, State.Moved.refl s, fun h => absurd rfl h⟩
  | cons i is ih =>
    by_cases hmet : required ≤ sum
    · have hstop : joinNeeded sc required s sum (i :: is) = (s, sum, i :: is) := if_pos hmet
      rw [hstop]
      exact ⟨[], rfl, State.Moved.refl s, fun h => absurd rfl h⟩
    · let u := s.joinMember sc.direction i .need (s.countedFor sc i)
      have hstep : joinNeeded sc required s sum (i :: is) = joinNeeded sc required u (sum + s.countedFor sc i) is :=
        if_neg hmet
      have hfigures : s.SameFigures u := DutyFrame.figures.join ..
      obtain ⟨joined, hl, hmoved, hshort⟩ := ih u (sum + s.countedFor sc i)
      rw [hstep]
      refine ⟨i :: joined, by rw [List.cons_append, ← hl], (State.Moved.joinMember s _ i _ _).trans hmoved, fun _ => ?_⟩
      by_cases hlast : joined = []
      · subst hlast
        simp only [State.thrustOf, List.dropLast_singleton, List.map_nil, List.sum_nil]
        omega
      · have hlater := hshort hlast
        rw [hfigures.thrustOf] at hlater
        rw [List.dropLast_cons_of_ne_nil hlast]
        simp only [State.thrustOf, List.map_cons, List.sum_cons] at hlater ⊢
        omega

/-- What stage 5 makes of the members `swept`: `needed` join, `rest` remain, `line` is the duty set then (R60). -/
structure State.NeedJoined (a : State) (sc : Scenario) (required : Nat) (swept : List (Nat × JoinReason))
    (needed rest : List Nat) (line : List (Nat × JoinReason)) : Prop where
  entries : line = swept ++ needed.map (fun i => (i, .need))
  candidates : a.candidates sc = needed ++ rest
  remaining : (a.need sc required).2.2 = rest
  duty : (a.need sc required).1.line.duty = line.map (a.memberAt sc)
  fans : (a.live line).map (fun x => x.1) = (a.live swept).map (fun x => x.1) ++ needed
  sum : (a.need sc required).2.1 = a.thrustOf sc ((a.live line).map (fun x => x.1))
  ended : rest ≠ [] → required ≤ a.thrustOf sc ((a.live line).map (fun x => x.1))
  unneeded : required ≤ a.thrustOf sc ((a.live swept).map (fun x => x.1)) → needed = []
  short : needed ≠ [] → a.thrustOf sc ((a.live line).map (fun x => x.1)).dropLast < required
  moved : State.Moved (needed.map (fun i => (i, .run sc.direction .urgent))) a (a.need sc required).1

section
variable {a : State} {sc : Scenario} {swept : List (Nat × JoinReason)} (hduty : a.line.duty = swept.map (a.memberAt sc))
include hduty

theorem State.present_eq : countedSum (nonExpired a.line.duty) = a.thrustOf sc ((a.live swept).map (fun x => x.1)) := by
  rw [hduty, State.nonExpired_memberAt, State.countedSum_memberAt]

theorem State.need_joined (required : Nat) :
    ∃ needed rest line, a.NeedJoined sc required swept needed rest line := by
  obtain ⟨needed, rest, hcands, hneed, hsum, hrest, hended, hnone⟩ := a.need_spec sc required
  obtain ⟨joined, hjoined, hmoved, hshort⟩ :=
    joinNeeded_moved sc required a (countedSum (nonExpired a.line.duty)) (a.candidates sc)
  have hsame : joined = needed := by
    have hrest' : (joinNeeded sc required a (countedSum (nonExpired a.line.duty)) (a.candidates sc)).2.2 = rest := hrest
    rw [hrest', hcands] at hjoined
    exact (List.append_cancel_right hjoined).symm
  subst hsame
  have hlive : ∀ i ∈ joined, (a.fan i).expired = false := fun i hi =>
    (State.candidate_usable (by rw [hcands]; exact List.mem_append_left _ hi)).2
  set line := swept ++ joined.map (fun i => (i, JoinReason.need)) with hline
  have hline' : (a.need sc required).1.line.duty = line.map (a.memberAt sc) := by
    rw [hneed, hduty, hline, List.map_append, List.map_map]
    rfl
  have hfans : (a.live line).map (fun x => x.1) = (a.live swept).map (fun x => x.1) ++ joined := by
    rw [hline, State.live_append, a.live_joined joined _ hlive, List.map_append, List.map_map]
    exact congrArg _ (List.map_id joined)
  have hreached : (a.need sc required).2.1 = a.thrustOf sc ((a.live line).map (fun x => x.1)) := by
    rw [hsum, hline', State.nonExpired_memberAt, State.countedSum_memberAt]
  rw [State.present_eq hduty] at hnone hshort
  refine ⟨joined, rest, line, hline, hcands, hrest, hline', hfans, hreached, fun h => hreached ▸ hended h, hnone,
    fun h => ?_, hmoved⟩
  rw [hfans, List.dropLast_append_of_ne_nil h, State.thrustOf_append]
  exact hshort h

end

/-! ### k -/

/-- No shorter start meets the requirement (R60). -/
theorem needLength_minimal (required sum : Nat) (l : List Nat) (j : Nat) (h : j < needLength required sum l) :
    sum + (l.take j).sum < required := by
  induction l generalizing sum j with
  | nil => cases h
  | cons c cs ih =>
    unfold needLength at h
    split at h
    · cases h
    next hshort =>
      cases j with
      | zero => simpa using hshort
      | succ j =>
        have := ih (sum + c) j (by omega)
        rw [List.take_succ_cons, List.sum_cons]
        omega

section
variable {a : State} {sc : Scenario} {required : Nat} {swept line : List (Nat × JoinReason)} {needed rest : List Nat}
  (hneed : a.NeedJoined sc required swept needed rest line) (hduty : a.line.duty = swept.map (a.memberAt sc))
include hneed

/-- The number of members that count after stage 5. -/
theorem State.NeedJoined.count : (nonExpired (a.need sc required).1.line.duty).length =
    ((a.live line).map (fun x => x.1)).length := by
  rw [hneed.duty, State.nonExpired_memberAt, List.length_map, List.length_map]

theorem State.NeedJoined.needed_le : a.needed sc required ≤ ((a.live line).map (fun x => x.1)).length :=
  hneed.count ▸ (a.needed_spec sc required).1

/-- The first k meet the requirement, or k is all of them (R60). -/
theorem State.NeedJoined.needed_meets :
    required ≤ a.thrustOf sc (((a.live line).map (fun x => x.1)).take (a.needed sc required)) ∨
      a.needed sc required = ((a.live line).map (fun x => x.1)).length := by
  by_cases hmet : required ≤ (a.need sc required).2.1
  · have hmeets := (a.needed_spec sc required).2 hmet
    rw [hneed.duty, State.nonExpired_memberAt, ← List.map_take, State.countedSum_memberAt, List.map_take] at hmeets
    exact .inl hmeets
  · refine .inr (.trans (if_neg fun hpresent => hmet ?_) hneed.count)
    obtain ⟨joined, rest, -, hline, hsum, -⟩ := a.need_spec sc required
    rw [hsum, hline, nonExpired_append, countedSum_append]
    omega

include hduty in
/-- No shorter start of the members that count meets the requirement (R60). -/
theorem State.NeedJoined.needed_minimal (j : Nat) (hj : j < a.needed sc required) :
    a.thrustOf sc (((a.live line).map (fun x => x.1)).take j) < required := by
  have hpresent := State.present_eq hduty
  set fans := (a.live line).map (fun x => x.1) with hfans
  by_cases hmet : required ≤ countedSum (nonExpired a.line.duty)
  · have hk : a.needed sc required = needLength required 0 ((nonExpired a.line.duty).map (fun m => m.counted)) :=
      if_pos hmet
    have hnone := hneed.unneeded (hpresent ▸ hmet)
    have hsame : (nonExpired a.line.duty).map (fun m => m.counted) = fans.map (fun i => a.countedFor sc i) := by
      rw [hfans, hneed.fans, hnone, List.append_nil, hduty, State.nonExpired_memberAt, List.map_map, List.map_map]
      rfl
    have hshort := needLength_minimal required 0 _ j (hk ▸ hj)
    rwa [hsame, ← List.map_take, Nat.zero_add] at hshort
  · have hlt : j < fans.length := hj.trans_le hneed.needed_le
    by_cases hnone : needed = []
    · have hall : a.thrustOf sc fans < required := by
        rw [hfans, hneed.fans, hnone, List.append_nil, ← hpresent]
        omega
      exact (a.thrustOf_le sc (List.take_sublist ..)).trans_lt hall
    · refine (a.thrustOf_le sc ?_).trans_lt (hneed.short hnone)
      rw [List.dropLast_eq_take]
      exact List.take_sublist_take_left (Nat.le_sub_one_of_lt hlt)

end

end Sys2Proof.Machine
end

section
/-! Stages 6 and 7 of an evaluation (R62 to R64), the demands that a whole evaluation writes, and the statement on the size
of the duty set. -/

namespace Sys2Proof.Machine

/-! ### Stage 7: joins -/

/-- The entries with which `l` joins up to the size, behind `count` members that count (R63). -/
def sizeEntries (count k redundancy : Nat) (l : List Nat) : List (Nat × JoinReason) :=
  (l.zipIdx (count + 1)).map (fun p => (p.1, if p.2 - k ≤ redundancy then .redundant else .trim))

/-- Candidates join until the size is reached (R63). -/
theorem joinToSize_moved (sc : Scenario) (size k redundancy : Nat) (s : State) (l : List Nat)
    (hlive : ∀ i ∈ l, (s.fan i).expired = false) {count : Nat} (hcount : (nonExpired s.line.duty).length = count) :
    State.Moved ((l.take (size - count)).map (fun i => (i, .run sc.direction .urgent))) s
        (joinToSize sc size k redundancy s l) ∧
      (joinToSize sc size k redundancy s l).line.duty =
        s.line.duty ++ (sizeEntries count k redundancy (l.take (size - count))).map (s.memberAt sc) := by
  induction l generalizing s count with
  | nil => exact ⟨by simpa [joinToSize] using State.Moved.refl s, by simp [joinToSize, sizeEntries]⟩
  | cons i is ih =>
    unfold joinToSize
    dsimp only
    rw [hcount]
    split
    next hlt =>
      set r : JoinReason := if count + 1 - k ≤ redundancy then .redundant else .trim
      set u := s.joinMember sc.direction i r (s.countedFor sc i)
      have hfigures : s.SameFigures u := DutyFrame.figures.join ..
      have hduty : u.line.duty = s.line.duty ++ [s.memberOf sc r i] := s.joinMember_memberOf sc r i
      have hnow : (nonExpired u.line.duty).length = count + 1 := by
        have hone : nonExpired [s.memberOf sc r i] = [s.memberOf sc r i] := s.nonExpired_memberOf sc r [i] (by
          simpa using hlive i List.mem_cons_self)
        rw [hduty, nonExpired_append, hone, List.length_append, hcount]
        rfl
      obtain ⟨hmoved, hjoined⟩ := ih u (fun j hj => by
        rw [hfigures.expired]
        exact hlive j (List.mem_cons_of_mem _ hj)) hnow
      have htake : (i :: is).take (size - count) = i :: is.take (size - (count + 1)) := by
        rw [show size - count = size - (count + 1) + 1 by omega, List.take_succ_cons]
      rw [htake]
      refine ⟨(State.Moved.joinMember s _ i r _).trans hmoved, ?_⟩
      rw [hjoined, hduty, hfigures.memberAt, List.append_assoc]
      rfl
    next hge =>
      rw [show size - count = 0 by omega]
      exact ⟨State.Moved.refl s, by simp [sizeEntries]⟩

/-! ### Stage 7: releases -/

/-- The releases are the removals of the last-joined members that count, the last joined first (R64). -/
theorem releaseMany_eq (n : Nat) (s : State) (h : (s.line.duty.map (fun x => x.fan)).Nodup) : releaseMany n s =
    forEach State.removeMember s
      (((nonExpired s.line.duty).map (fun x => x.fan)).drop ((nonExpired s.line.duty).length - n)).reverse := by
  induction n generalizing s with
  | zero =>
    rw [Nat.sub_zero, List.drop_eq_nil_of_le (by rw [List.length_map])]
    rfl
  | succ n ih =>
    obtain ⟨hsub, hlast⟩ := s.releaseLast_duty h
    have hrest := ih s.releaseLast (h.sublist (hsub.map _))
    rw [hlast] at hrest
    rw [releaseMany, hrest]
    rcases List.eq_nil_or_concat (nonExpired s.line.duty) with hnil | ⟨before, x, hlist⟩
    · have hsame : s.releaseLast = s := by
        unfold State.releaseLast
        rw [hnil]
        rfl
      rw [hsame, hnil]
      simp
    · rw [List.concat_eq_append] at hlist
      have hstep : s.releaseLast = s.removeMember x.fan := by
        unfold State.releaseLast
        rw [hlist, List.getLast?_concat]
      rw [hstep, hlist, List.dropLast_concat, List.map_append, List.length_append,
        List.drop_append_of_le_length (by simp), List.reverse_append]
      have hlen : before.length + [x].length - (n + 1) = before.length - n := by
        rw [List.length_singleton]
        omega
      rw [hlen]
      rfl

/-- Without the later fans of a list that holds none twice, the start of the list is left. -/
theorem filter_fans_drop {l : List (Nat × JoinReason)} (h : (l.map (fun x => x.1)).Nodup) (n : Nat) :
    l.filter (fun x => !((l.map (fun x => x.1)).drop n).contains x.1) = l.take n := by
  have hsplit : l.map (fun x => x.1) = (l.take n).map (fun x => x.1) ++ (l.map (fun x => x.1)).drop n := by
    rw [List.map_take, List.take_append_drop]
  rw [hsplit, List.nodup_append] at h
  obtain ⟨-, -, hdisjoint⟩ := h
  conv_lhs => rw [← List.take_append_drop n l, List.filter_append]
  rw [List.take_append_drop, List.filter_eq_self.mpr, List.filter_eq_nil_iff.mpr, List.append_nil]
  · intro x hx
    have hmem : x.1 ∈ (l.map (fun x => x.1)).drop n := by
      rw [← List.map_drop]
      exact List.mem_map_of_mem hx
    simpa using hmem
  · intro x hx
    have := hdisjoint x.1 (List.mem_map_of_mem hx) x.1
    simpa using this

section
variable {a : State} {sc : Scenario} {required : Nat} {swept line : List (Nat × JoinReason)} {needed rest : List Nat}
  (hneed : a.NeedJoined sc required swept needed rest line)
include hneed

/-- The size D of stage 6 (R62). -/
theorem State.NeedJoined.size_eq (redundancy : Nat) : a.sizeFor sc required redundancy =
    if ((a.live line).map (fun x => x.1)).length + rest.length = 0 then 0
    else min (((a.live line).map (fun x => x.1)).length + rest.length)
      (max 1 ((a.needed sc required : Int) + redundancy + sc.trim)).toNat := by
  unfold State.sizeFor dutySize
  rw [hneed.count, hneed.remaining, Nat.min_comm]
  split
  next h => rw [h, Nat.zero_min]
  next => rfl

/-- Stages 6 and 7: joins up to the size, or releases down to it (R63, R64). -/
theorem State.NeedJoined.resized (redundancy : Nat) (hnodup : (line.map (fun x => x.1)).Nodup) :
    let fans := (a.live line).map (fun x => x.1)
    let size := a.sizeFor sc required redundancy
    State.Moved ((rest.take (size - fans.length)).map (fun i => (i, .run sc.direction .urgent)) ++
        (fans.drop size).reverse.map (fun i => (i, .none))) (a.need sc required).1 (a.resized sc required redundancy) ∧
      (a.resized sc required redundancy).line.duty = (line.filter (fun x => !(fans.drop size).contains x.1) ++
        sizeEntries fans.length (a.needed sc required) redundancy (rest.take (size - fans.length))).map
          (a.memberAt sc) := by
  intro fans size
  have hfigures : a.SameFigures (a.need sc required).1 := DutyFrame.figures.joinNeeded ..
  have hcount := hneed.count
  have hresized : a.resized sc required redundancy = if fans.length < size then
      joinToSize sc size (a.needed sc required) redundancy (a.need sc required).1 rest
      else releaseMany (fans.length - size) (a.need sc required).1 := by
    unfold State.resized
    dsimp only
    rw [hcount, hneed.remaining]
  rw [hresized]
  split
  next hlt =>
    have hnone : fans.drop size = [] := List.drop_eq_nil_of_le hlt.le
    have hlive : ∀ i ∈ rest, ((a.need sc required).1.fan i).expired = false := fun i hi => by
      rw [hfigures.expired]
      exact (State.candidate_usable (by rw [hneed.candidates]; exact List.mem_append_right _ hi)).2
    obtain ⟨hmoved, hduty⟩ := joinToSize_moved sc size (a.needed sc required) redundancy _ rest hlive hcount
    rw [hnone, hduty, hneed.duty, hfigures.memberAt]
    rw [List.reverse_nil, List.map_nil, List.append_nil]
    exact ⟨hmoved, by simp [fans]⟩
  next hge =>
    have hnone : rest.take (size - fans.length) = [] := by
      rw [show size - fans.length = 0 by omega, List.take_zero]
    have hfans : (nonExpired (a.need sc required).1.line.duty).map (fun x => x.fan) = fans := by
      rw [hneed.duty, State.nonExpired_memberAt, State.map_fan_memberAt]
    have hreleased := releaseMany_eq (fans.length - size) (a.need sc required).1 (by
      rw [hneed.duty, State.map_fan_memberAt]
      exact hnodup)
    rw [hfans, hcount, show fans.length - (fans.length - size) = size by omega] at hreleased
    rw [hnone, hreleased, forEach_removeMember_duty, hneed.duty, List.filter_map]
    refine ⟨State.Moved.along State.Moved.removeMember _ _, ?_⟩
    simp only [sizeEntries, List.zipIdx_nil, List.map_nil, List.append_nil, List.contains_reverse]
    rfl

end

end Sys2Proof.Machine
end

section
/-! The size of the duty set (R53 to R65, R135): the demands of a whole evaluation, its outcome in each of the two cases, and
the statement. -/

namespace Sys2Proof.Machine

/-! ### The demands of an evaluation -/

/-- The demands of an evaluation, in order: NONE to the lost, RUN to who joins, NONE to who is released. -/
def dutyWrites (d : Direction) (lost joined released : List Nat) : List (Nat × Demand) :=
  lost.map (fun i => (i, .none)) ++ joined.map (fun i => (i, .run d .urgent)) ++ released.map (fun i => (i, .none))

theorem dutyWrites_eq_nil {d : Direction} {lost joined released : List Nat} :
    dutyWrites d lost joined released = [] ↔ lost = [] ∧ joined = [] ∧ released = [] := by
  simp [dutyWrites]

theorem mem_dutyWrites {d : Direction} {lost joined released : List Nat} {p : Nat × Demand} :
    p ∈ dutyWrites d lost joined released ↔ p.1 ∈ lost ∧ p.2 = .none ∨ p.1 ∈ joined ∧ p.2 = .run d .urgent ∨
      p.1 ∈ released ∧ p.2 = .none := by
  obtain ⟨i, x⟩ := p
  simp [dutyWrites, eq_comm]

theorem mem_fst_dutyWrites {d : Direction} {lost joined released : List Nat} {i : Nat} :
    i ∈ (dutyWrites d lost joined released).map (fun p => p.1) ↔ i ∈ lost ∨ i ∈ joined ∨ i ∈ released := by
  simp [dutyWrites]

section
variable {s t : State} {d : Direction} {lost joined released : List Nat}
  (h : State.Moved (dutyWrites d lost joined released) s t)
include h

theorem State.Moved.fans : t.fans = (s.writeAll (dutyWrites d lost joined released)).fans := by
  rw [h.written]
  rfl

theorem State.Moved.feeders : t.feeders = (s.writeAll (dutyWrites d lost joined released)).feeders := by
  rw [h.written]
  rfl

/-- The demands that have been written, and no others. -/
theorem State.Moved.writes : ∃ v, State.DemandsWritten (dutyWrites d lost joined released) s v ∧
    t.fans = v.fans ∧ t.feeders = v.feeders := ⟨_, s.writeAll_written _, h.fans, h.feeders⟩

/-- Who has joined and has not been released holds RUN d of class URGENT (R53). -/
theorem State.Moved.joined_demand {i : Nat} (hi : i < s.fanCount) (hjoined : i ∈ joined) (hlost : i ∉ lost)
    (hreleased : i ∉ released) : (t.fan i).demand = .run d .urgent := by
  rw [State.fan_congr h.fans]
  refine State.writeAll_demand_of_mem _ s hi (fun p hp hpi => ?_) (mem_fst_dutyWrites.mpr (.inr (.inl hjoined)))
  rcases mem_dutyWrites.mp hp with ⟨hp, -⟩ | ⟨-, hp⟩ | ⟨hp, -⟩
  · exact absurd (hpi ▸ hp) hlost
  · exact hp
  · exact absurd (hpi ▸ hp) hreleased

/-- Who has left, without having joined in between, holds NONE (R54). -/
theorem State.Moved.left_demand {i : Nat} (hleft : i ∈ lost ∨ i ∈ released) (hjoined : i ∉ joined) :
    (t.fan i).demand = .none := by
  rw [State.fan_congr h.fans]
  rcases Nat.lt_or_ge i s.fanCount with hi | hge
  · refine State.writeAll_demand_of_mem _ s hi (fun p hp hpi => ?_)
      (mem_fst_dutyWrites.mpr (hleft.elim .inl fun h => .inr (.inr h)))
    rcases mem_dutyWrites.mp hp with ⟨-, hp⟩ | ⟨hp, -⟩ | ⟨-, hp⟩
    · exact hp
    · exact absurd (hpi ▸ hp) hjoined
    · exact hp
  · rw [State.fan_none _ i ((State.writeAll_fanCount _ s).trans_le hge)]
    rfl

end

/-! ### Members and candidates -/

/-- The fans and reasons of the duty set, in join order. -/
def State.entries (s : State) : List (Nat × JoinReason) := s.line.duty.map Member.entry

theorem State.isMember_of_mem_entries {s : State} {x : Nat × JoinReason} (h : x ∈ s.entries) :
    s.isMember x.1 = true := by
  obtain ⟨y, hy, rfl⟩ := List.mem_map.mp h
  exact State.isMember_of_mem hy

theorem State.candidate_facts {s : State} {sc : Scenario} {i : Nat} (h : i ∈ s.candidates sc) :
    i < s.fanCount ∧ s.isMember i = false ∧ (s.fan i).state.isWorking = true := by
  have := ((s.mem_candidates sc i).mp h).2
  simp only [State.isCandidate, Bool.and_eq_true, Bool.not_eq_true', decide_eq_true_eq] at this
  exact ⟨this.1.1.1.1, this.1.1.1.2, this.2⟩

theorem State.mem_lostFans {s : State} {i : Nat} (h : i ∈ s.lostFans) : (s.fan i).state.isWorking = false := by
  obtain ⟨x, hx, rfl⟩ := List.mem_map.mp h
  simpa using (List.mem_filter.mp hx).2

theorem State.mem_lostFans_of {s : State} {x : Nat × JoinReason} (hx : x ∈ s.entries) (hs : x ∉ s.sweptEntries) :
    x.1 ∈ s.lostFans := by
  refine List.mem_map_of_mem (List.mem_filter.mpr ⟨hx, ?_⟩)
  have hnot : ¬ (s.fan x.1).state.isWorking = true := fun hw => hs (List.mem_filter.mpr ⟨hx, hw⟩)
  simpa using hnot

theorem State.sweptEntries_eq_iff (s : State) : s.sweptEntries = s.entries ↔ s.lostFans = [] := by
  rw [State.sweptEntries, State.lostFans, List.map_eq_nil_iff, List.filter_eq_nil_iff, State.entries,
    List.filter_eq_self]
  simp

theorem State.Moved.recordShortfall (s : State) (b : Bool) : State.Moved [] s (s.recordShortfall b) :=
  (State.Moved.modifyScenario s (fun sc => { sc with shortfall := b }) (fun _ => rfl) fun _ => rfl).trans
    (State.Moved.refreshShortfall _)

/-- The record of an evaluation has membership changed by what has been moved (R65). -/
theorem State.Moved.now_changed {s t : State} {ps : List (Nat × Demand)} (h : State.Moved ps s t) {sc now : Scenario}
    (hsc : s.line.scenario = some sc) (hnow : t.line.scenario = some now) :
    now.membershipChanged = (sc.membershipChanged || decide (ps ≠ [])) := by
  have hchanged := h.changed
  rw [hsc, hnow] at hchanged
  refine (Option.some.inj hchanged).trans (congrArg (sc.membershipChanged || ·) ?_)
  cases ps <;> rfl

/-! ### The two cases -/

/-- The duty set after stage 7: who joined up to the size stands behind who was not released (R63, R64). -/
def sizedEntries (line : List (Nat × JoinReason)) (fans rest : List Nat) (size k redundancy : Nat) :
    List (Nat × JoinReason) :=
  line.filter (fun x => !(fans.drop size).contains x.1) ++
    sizeEntries fans.length k redundancy (rest.take (size - fans.length))

section
variable {s : State} {sc : Scenario} (hsc : s.line.scenario = some sc)
include hsc

/-- Under full thrust the lost leave and every candidate joins (R57, R59). -/
theorem State.evaluate_full_moved (hfull : sc.fullThrust = true) :
    State.Moved (dutyWrites sc.direction s.lostFans (s.candidates sc) []) s s.evaluate ∧
      s.evaluate.entries = s.sweptEntries ++ (s.candidates sc).map (fun i => (i, .full)) := by
  have hfigures := s.prepared_figures sc
  rw [s.evaluate_full sc hsc hfull, s.prepared_candidates]
  constructor
  · have hmoved := ((State.Moved.prepared s sc).trans (State.Moved.joinAll sc (s.prepared sc) (s.candidates sc))).trans
      (State.Moved.recordShortfall _ (decide (countedSum (nonExpired
        (joinAll sc (s.prepared sc) (s.candidates sc)).line.duty) < s.requiredFor sc)))
    simpa [dutyWrites] using hmoved
  · rw [State.entries, State.recordShortfall_duty, joinAll_duty, s.prepared_entries, hfigures.memberOf, List.map_append,
      State.map_entry_memberAt, List.map_map]
    rfl

/-- Without it candidates join while the need is not met, then up to the size, or members are released down to it (R60 to
R64). -/
theorem State.evaluate_size_moved (hok : s.DutyOk) (hfull : sc.fullThrust = false) :
    ∃ needed rest line, (s.prepared sc).NeedJoined sc (s.requiredFor sc) s.sweptEntries needed rest line ∧
      (line.map (fun x => x.1)).Nodup ∧
      let fans := ((s.prepared sc).live line).map (fun x => x.1)
      let size := (s.prepared sc).sizeFor sc (s.requiredFor sc) (s.prepared sc).redundancy
      State.Moved (dutyWrites sc.direction s.lostFans (needed ++ rest.take (size - fans.length))
        (fans.drop size).reverse) s s.evaluate ∧
      s.evaluate.entries = sizedEntries line fans rest size ((s.prepared sc).needed sc (s.requiredFor sc))
        (s.prepared sc).redundancy := by
  obtain ⟨hduty, hpreference⟩ := hok
  have hprepared : (s.prepared sc).line.duty = s.sweptEntries.map ((s.prepared sc).memberAt sc) := by
    rw [(s.prepared_figures sc).memberAt, s.prepared_entries]
  obtain ⟨needed, rest, line, hneed⟩ := State.need_joined hprepared (s.requiredFor sc)
  have hnodup : (line.map (fun x => x.1)).Nodup := by
    have hfans : ((s.prepared sc).line.duty.map (fun x => x.fan)).Nodup := by
      rw [State.prepared_duty, List.map_map]
      exact hduty.sublist (List.filter_sublist.map _)
    have := State.need_nodup (s.requiredFor sc) hfans (hpreference sc hsc)
    rwa [hneed.duty, State.map_fan_memberAt] at this
  obtain ⟨hmoved, hresized⟩ := hneed.resized (s.prepared sc).redundancy hnodup
  refine ⟨needed, rest, line, hneed, hnodup, ?_, ?_⟩
  · rw [s.evaluate_size sc hsc hfull]
    have hall := (((State.Moved.prepared s sc).trans hneed.moved).trans hmoved).trans
      (State.Moved.recordShortfall _ (decide (((s.prepared sc).need sc (s.requiredFor sc)).2.1 < s.requiredFor sc)))
    simpa [dutyWrites] using hall
  · rw [s.evaluate_size sc hsc hfull, State.entries, State.recordShortfall_duty, hresized, State.map_entry_memberAt]
    rfl

end

/-! ### What follows for the duty set and for its demands -/

/-- Who has joined or left, by what has been written: DUTY_CHANGE shows, and the demands stand as they were written last
(R53, R54, R65). -/
theorem State.Moved.settles {s : State} {sc : Scenario} {joined released : List Nat}
    (hmoved : State.Moved (dutyWrites sc.direction s.lostFans joined released) s s.evaluate)
    (hcandidates : ∀ i ∈ joined, i ∈ s.candidates sc)
    (hsame : s.lostFans = [] → joined = [] → released = [] → s.evaluate.entries = s.entries)
    (hnew : ∀ x ∈ s.evaluate.entries, x ∉ s.entries → x.1 ∈ joined ∧ x.1 ∉ released)
    (hgone : ∀ x ∈ s.entries, x ∉ s.evaluate.entries → x.1 ∈ s.lostFans ∨ x.1 ∈ released) :
    (s.evaluate.entries ≠ s.entries → s.evaluate.events.Shows .dutyChange) ∧
    (∀ x ∈ s.evaluate.entries, x ∉ s.entries → (s.evaluate.fan x.1).demand = .run sc.direction .urgent) ∧
    (∀ x ∈ s.entries, x ∉ s.evaluate.entries → (s.evaluate.fan x.1).demand = .none) := by
  refine ⟨fun hne => hmoved.shows fun hnil => ?_, fun x hx hfresh => ?_, fun x hx hleft => ?_⟩
  · obtain ⟨hlost, hjoined, hreleased⟩ := dutyWrites_eq_nil.mp hnil
    exact hne (hsame hlost hjoined hreleased)
  · obtain ⟨hjoined, hreleased⟩ := hnew x hx hfresh
    obtain ⟨hinstalled, -, hworking⟩ := State.candidate_facts (hcandidates _ hjoined)
    refine hmoved.joined_demand hinstalled hjoined (fun hlost => ?_) hreleased
    rw [State.mem_lostFans hlost] at hworking
    cases hworking
  · refine hmoved.left_demand (hgone x hx hleft) fun hjoined => ?_
    obtain ⟨-, hmember, -⟩ := State.candidate_facts (hcandidates _ hjoined)
    rw [State.isMember_of_mem_entries hx] at hmember
    cases hmember

theorem State.mem_entries_of_swept {s : State} {x : Nat × JoinReason} (h : x ∈ s.sweptEntries) : x ∈ s.entries :=
  List.mem_of_mem_filter h

theorem mem_sizeEntries {count k redundancy : Nat} {l : List Nat} {x : Nat × JoinReason}
    (h : x ∈ sizeEntries count k redundancy l) : x.1 ∈ l := by
  obtain ⟨p, hp, rfl⟩ := List.mem_map.mp h
  exact List.fst_mem_of_mem_zipIdx hp

theorem sizeEntries_eq_nil {count k redundancy : Nat} {l : List Nat} :
    sizeEntries count k redundancy l = [] ↔ l = [] := by
  simp [sizeEntries]

section
variable {line : List (Nat × JoinReason)} {fans rest : List Nat} {size k redundancy : Nat}

/-- Stage 7 joins or releases, never both. -/
theorem stage7_one_way : fans.drop size = [] ∨ rest.take (size - fans.length) = [] := by
  rcases Nat.le_total fans.length size with h | h
  · exact .inl (List.drop_eq_nil_of_le h)
  · exact .inr (by rw [Nat.sub_eq_zero_of_le h, List.take_zero])

theorem sizedEntries_joins (h : fans.drop size = []) : sizedEntries line fans rest size k redundancy =
    line ++ sizeEntries fans.length k redundancy (rest.take (size - fans.length)) := by
  rw [sizedEntries, h]
  simp

theorem sizedEntries_releases (h : rest.take (size - fans.length) = []) :
    sizedEntries line fans rest size k redundancy = line.filter (fun x => !(fans.drop size).contains x.1) := by
  rw [sizedEntries, h, sizeEntries_eq_nil.mpr rfl, List.append_nil]

/-- Stage 7 leaves the duty set exactly where nobody joins and nobody is released. -/
theorem sizedEntries_eq_line_iff (hfans : ∀ i ∈ fans, i ∈ line.map (fun x => x.1)) :
    sizedEntries line fans rest size k redundancy = line ↔
      rest.take (size - fans.length) = [] ∧ fans.drop size = [] := by
  constructor
  · intro hsame
    rcases stage7_one_way (fans := fans) (rest := rest) (size := size) with hnone | hnone
    · rw [sizedEntries_joins hnone] at hsame
      exact ⟨sizeEntries_eq_nil.mp (by simpa using hsame), hnone⟩
    · refine ⟨hnone, List.eq_nil_iff_forall_not_mem.mpr fun i hi => ?_⟩
      rw [sizedEntries_releases hnone, List.filter_eq_self] at hsame
      obtain ⟨x, hx, rfl⟩ := List.mem_map.mp (hfans i (List.mem_of_mem_drop hi))
      simpa [hi] using hsame x hx
  · rintro ⟨hrest, hnone⟩
    rw [sizedEntries_joins hnone, hrest, sizeEntries_eq_nil.mpr rfl, List.append_nil]

end

/-- With nobody to join, the members that count after stage 7 are the first of those before it, and of the others none
has left (R64). -/
theorem State.live_releases (s : State) {line : List (Nat × JoinReason)} (hnodup : (line.map (fun x => x.1)).Nodup)
    (size : Nat) (result : List (Nat × JoinReason))
    (hresult : result = line.filter (fun x => !(((s.live line).map (fun x => x.1)).drop size).contains x.1)) :
    s.live result = (s.live line).take size ∧
      result = line.filter (fun x => (s.fan x.1).expired || decide (x ∈ s.live result)) := by
  have hstart := filter_fans_drop (l := s.live line) (hnodup.sublist (List.filter_sublist.map _)) size
  have hlive : s.live result = (s.live line).take size := by
    rw [← hstart, hresult]
    simp only [State.live, List.filter_filter, Bool.and_comm]
  refine ⟨hlive, hresult.trans (List.filter_congr fun x hx => ?_)⟩
  cases hexpired : (s.fan x.1).expired
  · have hcounts : x ∈ s.live line := List.mem_filter.mpr ⟨hx, by simp [hexpired]⟩
    rw [hlive, ← hstart]
    simp [hcounts]
  · have hnot : x.1 ∉ ((s.live line).map (fun x => x.1)).drop size := fun hmem => by
      obtain ⟨y, hy, hfan⟩ := List.mem_map.mp (List.mem_of_mem_drop hmem)
      have := (List.mem_filter.mp hy).2
      rw [hfan, hexpired] at this
      cases this
    simpa using hnot

/-! ### The statement -/

section
variable {s : State} {sc : Scenario} (hsc : s.line.scenario = some sc)
include hsc

/-- Under full thrust the duty set is what it was exactly where nothing has been written (R65). -/
theorem State.evaluate_full_still (hfull : sc.fullThrust = true) : s.evaluate.entries = s.entries ↔
    dutyWrites sc.direction s.lostFans (s.candidates sc) [] = [] := by
  obtain ⟨-, hentries⟩ := State.evaluate_full_moved hsc hfull
  rw [dutyWrites_eq_nil, ← s.sweptEntries_eq_iff, hentries]
  constructor
  · intro hsame
    have hnone : s.candidates sc = [] := by
      refine List.eq_nil_iff_forall_not_mem.mpr fun i hi => ?_
      have hmem : (i, JoinReason.full) ∈ s.entries := by
        rw [← hsame]
        exact List.mem_append_right _ (List.mem_map_of_mem hi)
      obtain ⟨-, hmember, -⟩ := State.candidate_facts hi
      rw [State.isMember_of_mem_entries hmem] at hmember
      cases hmember
    rw [hnone] at hsame
    exact ⟨by simpa using hsame, hnone, rfl⟩
  · rintro ⟨hswept, hnone, -⟩
    rw [hnone, hswept]
    simp

/-- What an evaluation under full thrust makes of DUTY_CHANGE and of the demands (R53, R54, R65). -/
theorem State.evaluate_full_settles (hfull : sc.fullThrust = true) :
    (s.evaluate.entries ≠ s.entries → s.evaluate.events.Shows .dutyChange) ∧
    (∀ x ∈ s.evaluate.entries, x ∉ s.entries → (s.evaluate.fan x.1).demand = .run sc.direction .urgent) ∧
    (∀ x ∈ s.entries, x ∉ s.evaluate.entries → (s.evaluate.fan x.1).demand = .none) := by
  obtain ⟨hmoved, hentries⟩ := State.evaluate_full_moved hsc hfull
  refine hmoved.settles (fun _ => id) (fun hlost hnone hnobody => ?_) (fun x hx hfresh => ?_) fun x hx hleft => ?_
  · rw [State.evaluate_full_still hsc hfull, hlost, hnone]
    rfl
  · rw [hentries, List.mem_append, List.mem_map] at hx
    rcases hx with hx | ⟨i, hi, rfl⟩
    · exact absurd (State.mem_entries_of_swept hx) hfresh
    · exact ⟨hi, nofun⟩
  · refine .inl (State.mem_lostFans_of hx fun hswept => hleft ?_)
    rw [hentries]
    exact List.mem_append_left _ hswept

/-- The record of an evaluation without full thrust (R57, R65). -/
theorem State.evaluate_size_record (hfull : sc.fullThrust = false) : ∃ now, s.evaluate.line.scenario = some now ∧
    now.required = s.requiredFor sc ∧
    now.shortfall = decide (((s.prepared sc).need sc (s.requiredFor sc)).2.1 < s.requiredFor sc) := by
  rw [s.evaluate_size sc hsc hfull]
  exact State.recordShortfall_stores _ _ _ ((DutyFrame.required.resized (s.prepared sc) sc _ _).trans
    (s.prepared_required sc hsc))

end

/-- What an evaluation without full thrust makes of DUTY_CHANGE and of the demands (R53, R54, R65). -/
theorem State.evaluate_size_settles {s : State} {sc : Scenario} {needed rest : List Nat} {fans : List Nat} {size k redundancy : Nat}
    (hcandidates : s.candidates sc = needed ++ rest)
    (hmoved : State.Moved (dutyWrites sc.direction s.lostFans (needed ++ rest.take (size - fans.length))
      (fans.drop size).reverse) s s.evaluate)
    (hentries : s.evaluate.entries =
      sizedEntries (s.sweptEntries ++ needed.map (fun i => (i, .need))) fans rest size k redundancy) :
    (s.evaluate.entries ≠ s.entries → s.evaluate.events.Shows .dutyChange) ∧
    (∀ x ∈ s.evaluate.entries, x ∉ s.entries → (s.evaluate.fan x.1).demand = .run sc.direction .urgent) ∧
    (∀ x ∈ s.entries, x ∉ s.evaluate.entries → (s.evaluate.fan x.1).demand = .none) := by
  refine hmoved.settles (fun i hi => ?_) (fun hlost hjoined hreleased => ?_) (fun x hx hfresh => ?_)
    fun x hx hleft => ?_
  · rw [hcandidates]
    exact ((List.Sublist.refl needed).append (List.take_sublist ..)).subset hi
  · obtain ⟨hneeded, hnone⟩ := List.append_eq_nil_iff.mp hjoined
    rw [hentries, sizedEntries_joins (List.reverse_eq_nil_iff.mp hreleased), hnone, sizeEntries_eq_nil.mpr rfl, hneeded,
      s.sweptEntries_eq_iff.mpr hlost]
    simp
  · rw [hentries, sizedEntries, List.mem_append, List.mem_filter, List.mem_append, List.mem_map] at hx
    rcases hx with ⟨hx | ⟨i, hi, rfl⟩, hkept⟩ | hx
    · exact absurd (State.mem_entries_of_swept hx) hfresh
    · exact ⟨List.mem_append_left _ hi, by simpa using hkept⟩
    · have hjoins := mem_sizeEntries hx
      refine ⟨List.mem_append_right _ hjoins, ?_⟩
      rcases stage7_one_way (fans := fans) (rest := rest) (size := size) with hnone | hnone
      · simp [hnone]
      · rw [hnone] at hjoins
        cases hjoins
  · by_cases hswept : x ∈ s.sweptEntries
    · refine .inr (List.mem_reverse.mpr (by_contra fun hkept => hleft ?_))
      rw [hentries, sizedEntries]
      exact List.mem_append_left _ (List.mem_filter.mpr ⟨List.mem_append_left _ hswept, by simpa using hkept⟩)
    · exact .inl (State.mem_lostFans_of hx hswept)

/-- Without full thrust the duty set is what it was exactly where nothing has been written (R65). -/
theorem State.evaluate_size_still {s : State} {d : Direction} {needed rest fans : List Nat}
    {line : List (Nat × JoinReason)} {size k redundancy : Nat} (hfans : ∀ i ∈ fans, i ∈ line.map (fun x => x.1)) :
    dutyWrites d s.lostFans (needed ++ rest.take (size - fans.length)) (fans.drop size).reverse ≠ [] ↔
      s.sweptEntries ≠ s.entries ∨ needed ≠ [] ∨ sizedEntries line fans rest size k redundancy ≠ line := by
  rw [Ne, dutyWrites_eq_nil, List.append_eq_nil_iff, List.reverse_eq_nil_iff, ← s.sweptEntries_eq_iff, Ne, Ne, Ne,
    sizedEntries_eq_line_iff hfans]
  tauto

/-- Settles O60: under full thrust by stages 2 and 4, without it by stages 2, 5 and 7 with k and D of stages 5 and 6; the
demands are those of the moves in their order. -/
theorem evaluationSizesTheDutySet : Obligations.EvaluationSizesTheDutySet := by
  intro s sc m hok hsc himage entry before swept live thrust candidates result lost writes
  cases hfull : sc.fullThrust
  · obtain ⟨needed, rest, line, hneed, hnodup, hmoved, hentries⟩ := State.evaluate_size_moved hsc hok hfull
    obtain ⟨now, hnow, hrequired, hshortfall⟩ := State.evaluate_size_record hsc hfull
    obtain rfl := hneed.entries
    have hfigures := s.prepared_figures sc
    have hredundancy : (s.prepared sc).redundancy = m.tunnel.redundancy := by
      unfold State.redundancy State.tunnel?
      rw [hfigures.image, himage]
      rfl
    have hcandidates : s.candidates sc = needed ++ rest := s.prepared_candidates sc ▸ hneed.candidates
    have hsize := hneed.size_eq (s.prepared sc).redundancy
    rw [hfigures.live] at hmoved hentries hsize
    rw [hredundancy] at hmoved hentries hsize
    set k := (s.prepared sc).needed sc (s.requiredFor sc)
    refine ⟨now, hnow, nofun, fun _ => ⟨needed, rest, k, hcandidates, ?_⟩,
      State.evaluate_size_settles hcandidates hmoved hentries⟩
    intro line fans size
    change _ = size at hsize
    rw [hsize] at hmoved hentries
    replace hmoved : State.Moved (dutyWrites sc.direction s.lostFans (needed ++ rest.take (size - fans.length))
      (fans.drop size).reverse) s s.evaluate := hmoved
    have hresult : result = sizedEntries line fans rest size k m.tunnel.redundancy := hentries
    have hstill := State.evaluate_size_still (s := s) (d := sc.direction) (needed := needed) (rest := rest) (line := line)
      (size := size) (k := k) (redundancy := m.tunnel.redundancy) (fans := fans) fun i hi =>
        (List.filter_sublist.map _).subset hi
    have hminimal := hneed.needed_minimal (by rw [hfigures.memberAt, s.prepared_entries])
    have hk := hneed.needed_le
    have hmeets := hneed.needed_meets
    have hsum := hneed.sum
    have hshort := hneed.short
    have hended := hneed.ended
    simp only [hfigures.live, hfigures.thrustOf] at hminimal hk hmeets hsum hshort hended
    rw [hrequired]
    refine ⟨?_, fun hchange => hmoved.shows (hstill.mpr (hchange.imp id .inl)), hshort, hended, ?_, hk, hminimal,
      hmeets, fun hjoins => ?_, fun hreleases => ?_, fun hjoins => ?_, fun hreleases => ?_⟩
    · refine (hmoved.now_changed hsc hnow).trans (congrArg (sc.membershipChanged || ·) (decide_eq_decide.mpr ?_))
      rw [hresult]
      exact hstill
    · rw [hshortfall, decide_eq_true_iff, hsum]
      rfl
    · have hwrites := hmoved.writes
      rwa [List.drop_eq_nil_of_le hjoins] at hwrites
    · have hwrites := hmoved.writes
      rwa [Nat.sub_eq_zero_of_le hreleases.le, List.take_zero, List.append_nil] at hwrites
    · exact hresult.trans (sizedEntries_joins (List.drop_eq_nil_of_le hjoins))
    · refine s.live_releases hnodup size _ (hresult.trans (sizedEntries_releases ?_))
      rw [Nat.sub_eq_zero_of_le hreleases.le, List.take_zero]
  · obtain ⟨now, hnow, -⟩ := s.evaluate_required sc hsc
    obtain ⟨hmoved, hentries⟩ := State.evaluate_full_moved hsc hfull
    refine ⟨now, hnow, fun _ => ⟨hmoved.writes, hentries, ?_⟩, nofun, State.evaluate_full_settles hsc hfull⟩
    refine (hmoved.now_changed hsc hnow).trans (congrArg (sc.membershipChanged || ·) ?_)
    exact decide_eq_decide.mpr (not_congr (State.evaluate_full_still hsc hfull).symm)

end Sys2Proof.Machine
end
